-- ==== Sys2Proof/Word.lean ====
section
/-! DEFINITION. The word types of the CBM engine (spec/00_scope.md R7, R10; spec/10_state.md). -/

namespace Sys2Proof

/-- Eight bits: a colour channel, a parameter register, the `b` field (R10, R26, R70). -/
abbrev Byte := BitVec 8

/-- Sixteen bits: START, END, the `imm16` field, a host address (R23, R70, R51). -/
abbrev Half := BitVec 16

/-- Thirty-two bits: A, B, R, a command word, a colour word (R20, R70, R10). -/
abbrev Word := BitVec 32

/-- A packed colour `W, R, G, B`, eight bits each, `W` in the most significant byte (R10). -/
abbrev Color := Word

end Sys2Proof
end

