-- ==== Sys2Proof/Syntax.lean ====
section
/-! DEFINITION. The commands of the CBM engine, one constructor per row of spec/opcode_table.json
(spec/30_encoding.md R73, R79, R80).  Operands are the fields of the command word (R70). -/

namespace Sys2Proof

/-- A command. Colour operands are never in the command word: they come from `A` and `B` (R70). -/
inductive Instr where
  /-- `BLEND amt` (R101). -/
  | blend (amount : Byte)
  /-- `ADD` (R103). -/
  | add
  /-- `ADD.P`, preserveRatio (R103). -/
  | addP
  /-- `FADE amt` (R105). -/
  | fade (amount : Byte)
  /-- `FADE.V amt`, video (R105). -/
  | fadeV (amount : Byte)
  /-- `WHEEL pos` (R111). -/
  | wheel (pos : Byte)
  /-- `HSV2RGB` (R113). -/
  | hsv2rgb
  /-- `RGB2HSV` (R115). -/
  | rgb2hsv
  /-- `SIN8 x` (R124). -/
  | sin8 (x : Byte)
  /-- `SIN16 x` (R122). -/
  | sin16 (x : Half)
  /-- `TRI16 x` (R126). -/
  | tri16 (x : Half)
  /-- `PALCOLOR pid, pos, bri` (R134). -/
  | palcolor (pid pos bri : Byte)
  /-- `GETPIX i` (R142). -/
  | getpix (i : Half)
  /-- `SETPIX i` (R143). -/
  | setpix (i : Half)
  /-- `FILL` (R144). -/
  | fill
  /-- `FADEOUT amt` (R146). -/
  | fadeout (amount : Byte)
  /-- `BLUR amt` (R148). -/
  | blur (amount : Byte)
  /-- `NOW` (R150). -/
  | now
  /-- `SEGPAL i, bri` (R152). -/
  | segpal (i : Half) (bri : Byte)
  /-- `SEGPAL.I i, bri`, useIndex (R152). -/
  | segpalI (i : Half) (bri : Byte)
  /-- `GETCOLOR i` (R153). -/
  | getcolor (i : Half)
  /-- `RESET` (R154). -/
  | reset
  /-- `FX.STATIC` = `EFFECT 0` (R164). -/
  | fxStatic
  /-- `FX.BLINK` = `EFFECT 1` (R165). -/
  | fxBlink
  /-- `FX.STROBE` = `EFFECT 2` (R166). -/
  | fxStrobe
  /-- `FX.BREATHE` = `EFFECT 3` (R167). -/
  | fxBreathe
  /-- `FX.FADE` = `EFFECT 4` (R168). -/
  | fxFade
  /-- `FX.SCAN` = `EFFECT 5` (R169). -/
  | fxScan
  /-- `FX.DUALSCAN` = `EFFECT 6` (R170). -/
  | fxDualScan
  /-- `FX.RAINBOW` = `EFFECT 7` (R171). -/
  | fxRainbow
  /-- `FX.RAINBOWCYCLE` = `EFFECT 8` (R172). -/
  | fxRainbowCycle
  /-- `FX.THEATER` = `EFFECT 9` (R180). -/
  | fxTheater
  /-- `FX.RUNNING` = `EFFECT 10` (R181). -/
  | fxRunning
  /-- `FX.WIPE` = `EFFECT 11` (R182). -/
  | fxWipe
  /-- `FX.RANDOMCOLOR` = `EFFECT 12` (R183). -/
  | fxRandomColor
  /-- `FX.DYNAMIC` = `EFFECT 13` (R184). -/
  | fxDynamic
  /-- `FX.TWINKLE` = `EFFECT 14` (R185). -/
  | fxTwinkle
  /-- `FX.SPARKLE` = `EFFECT 15` (R186). -/
  | fxSparkle
  /-- `EFFECT id` for the ids that no `FX` row names, 16 to 255 (R76, R160). -/
  | effect (id : Byte)
  deriving DecidableEq, Repr

end Sys2Proof
end

