-- ==== Sys2Proof/WellFormed.lean ====
section
/-! DEFINITION. Which terms of `Instr` stand for a row of spec/opcode_table.json.  Every field of a
command word is exactly as wide as its operand (spec/30_encoding.md R72), so only the general EFFECT
row has a check: the ids 0 to 15 belong to the `FX` rows (R73: matched first to last, R80). -/

namespace Sys2Proof

/-- The term is the decoding of some command word. -/
def Instr.wf : Instr → Bool
  | .effect id => 16 ≤ id.toNat
  | .blend _ | .add | .addP | .fade _ | .fadeV _ | .wheel _ | .hsv2rgb | .rgb2hsv | .sin8 _
  | .sin16 _ | .tri16 _ | .palcolor _ _ _ | .getpix _ | .setpix _ | .fill | .fadeout _ | .blur _
  | .now | .segpal _ _ | .segpalI _ _ | .getcolor _ | .reset | .fxStatic | .fxBlink | .fxStrobe
  | .fxBreathe | .fxFade | .fxScan | .fxDualScan | .fxRainbow | .fxRainbowCycle | .fxTheater
  | .fxRunning | .fxWipe | .fxRandomColor | .fxDynamic | .fxTwinkle | .fxSparkle => true

end Sys2Proof
end

