-- ==== Sys2Proof/Decode.lean ====
section
/-! DEFINITION. The decoder of command words and, after it, the encoder (spec/30_encoding.md R70 to
R77).  A command is one 32-bit word `{op, f, b, imm16}`; there is no other length (R77). -/

namespace Sys2Proof

/-- The four fields of a command word (R70). -/
structure Fields where
  op : BitVec 6
  f : BitVec 2
  b : Byte
  imm : Half
  deriving DecidableEq, Repr

/-- `word = {op, f, b, imm16}`: `op` in bits 31:26, `f` in 25:24, `b` in 23:16, `imm16` in 15:0
(R70). -/
def assemble (x : Fields) : Word := x.op ++ x.f ++ x.b ++ x.imm

/-- The fields of a word (R70). -/
def fieldsOf (w : Word) : Fields where
  op := w.extractLsb' 26 6
  f := w.extractLsb' 24 2
  b := w.extractLsb' 16 8
  imm := w.extractLsb' 0 16

/-- Why a word is illegal (R74). -/
inductive DecodeError where
  /-- `op` is not one of the twenty listed opcodes. -/
  | unknownOpcode
  /-- `op` is listed and a field that its format does not use is not zero (R75). -/
  | unusedFieldNotZero
  deriving DecidableEq, Repr

/-- Format N: `f`, `b` and `imm16` must be zero (R71). -/
def formatN (x : Fields) (i : Instr) : Except DecodeError Instr :=
  if x.f = 0 ∧ x.b = 0 ∧ x.imm = 0 then .ok i else .error .unusedFieldNotZero

/-- Format NF: `f[1]`, `b` and `imm16` must be zero; `f[0]` chooses (R71, R72 (e)). -/
def formatNF (x : Fields) (i0 i1 : Instr) : Except DecodeError Instr :=
  if x.b = 0 ∧ x.imm = 0 then
    if x.f = 0 then .ok i0 else if x.f = 1 then .ok i1 else .error .unusedFieldNotZero
  else .error .unusedFieldNotZero

/-- Format B: `f` and `imm16` must be zero (R71). -/
def formatB (x : Fields) (i : Byte → Instr) : Except DecodeError Instr :=
  if x.f = 0 ∧ x.imm = 0 then .ok (i x.b) else .error .unusedFieldNotZero

/-- Format BF: `f[1]` and `imm16` must be zero; `f[0]` chooses (R71). -/
def formatBF (x : Fields) (i0 i1 : Byte → Instr) : Except DecodeError Instr :=
  if x.imm = 0 then
    if x.f = 0 then .ok (i0 x.b) else if x.f = 1 then .ok (i1 x.b)
    else .error .unusedFieldNotZero
  else .error .unusedFieldNotZero

/-- Format I: `f` and `b` must be zero (R71). -/
def formatI (x : Fields) (i : Half → Instr) : Except DecodeError Instr :=
  if x.f = 0 ∧ x.b = 0 then .ok (i x.imm) else .error .unusedFieldNotZero

/-- Format P: `f` must be zero; `imm16[15:8]` is the palette id, `imm16[7:0]` the position (R71,
R72 (d)). -/
def formatP (x : Fields) (i : Byte → Byte → Byte → Instr) : Except DecodeError Instr :=
  if x.f = 0 then .ok (i (x.imm.extractLsb' 8 8) (x.imm.extractLsb' 0 8) x.b)
  else .error .unusedFieldNotZero

/-- Format PF: `f[1]` must be zero; `f[0]` chooses (R71). -/
def formatPF (x : Fields) (i0 i1 : Half → Byte → Instr) : Except DecodeError Instr :=
  if x.f = 0 then .ok (i0 x.imm x.b) else if x.f = 1 then .ok (i1 x.imm x.b)
  else .error .unusedFieldNotZero

/-- The row an effect id belongs to: an `FX` row for 0 to 15, else the general EFFECT row (R73, R80,
R161). -/
def effectRow (id : Byte) : Instr :=
  match id.toNat with
  | 0 => .fxStatic
  | 1 => .fxBlink
  | 2 => .fxStrobe
  | 3 => .fxBreathe
  | 4 => .fxFade
  | 5 => .fxScan
  | 6 => .fxDualScan
  | 7 => .fxRainbow
  | 8 => .fxRainbowCycle
  | 9 => .fxTheater
  | 10 => .fxRunning
  | 11 => .fxWipe
  | 12 => .fxRandomColor
  | 13 => .fxDynamic
  | 14 => .fxTwinkle
  | 15 => .fxSparkle
  | _ => .effect id

/-- The opcode map of R73, by fields. -/
def decodeFields (x : Fields) : Except DecodeError Instr :=
  match x.op.toNat with
  | 0x01 => formatB x .blend
  | 0x02 => formatNF x .add .addP
  | 0x03 => formatBF x .fade .fadeV
  | 0x08 => formatB x .wheel
  | 0x09 => formatN x .hsv2rgb
  | 0x0A => formatN x .rgb2hsv
  | 0x10 => formatB x .sin8
  | 0x11 => formatI x .sin16
  | 0x12 => formatI x .tri16
  | 0x18 => formatP x .palcolor
  | 0x20 => formatI x .getpix
  | 0x21 => formatI x .setpix
  | 0x22 => formatN x .fill
  | 0x23 => formatB x .fadeout
  | 0x24 => formatB x .blur
  | 0x25 => formatN x .now
  | 0x26 => formatPF x .segpal .segpalI
  | 0x27 => formatI x .getcolor
  | 0x28 => formatN x .reset
  | 0x30 => formatB x effectRow
  | _ => .error .unknownOpcode

/-- Decode a command word (R73, R74). -/
def decode (w : Word) : Except DecodeError Instr := decodeFields (fieldsOf w)

/-- What the decoder reads from an instruction whose bits are `w`, of which `nbits` are given and
every higher one is 0: a command is one 32-bit word (R70, R77). -/
def decodeTableWord (nbits w : Nat) : Option Instr :=
  match decode (BitVec.ofNat 32 (w % 2 ^ nbits)) with
  | .ok i => some i
  | .error _ => none

/-! The encoder, from R71, R73 and R79. -/

def fieldsN (op : Nat) : Fields := ⟨BitVec.ofNat 6 op, 0, 0, 0⟩
def fieldsNF (op : Nat) (flag : BitVec 2) : Fields := ⟨BitVec.ofNat 6 op, flag, 0, 0⟩
def fieldsB (op : Nat) (b : Byte) : Fields := ⟨BitVec.ofNat 6 op, 0, b, 0⟩
def fieldsBF (op : Nat) (flag : BitVec 2) (b : Byte) : Fields := ⟨BitVec.ofNat 6 op, flag, b, 0⟩
def fieldsI (op : Nat) (imm : Half) : Fields := ⟨BitVec.ofNat 6 op, 0, 0, imm⟩
def fieldsP (op : Nat) (hi lo b : Byte) : Fields := ⟨BitVec.ofNat 6 op, 0, b, hi ++ lo⟩
def fieldsPF (op : Nat) (flag : BitVec 2) (imm : Half) (b : Byte) : Fields :=
  ⟨BitVec.ofNat 6 op, flag, b, imm⟩

/-- The fields of a command's word (R71, R73, R161). -/
def encodeFields : Instr → Fields
  | .blend amount => fieldsB 0x01 amount
  | .add => fieldsNF 0x02 0
  | .addP => fieldsNF 0x02 1
  | .fade amount => fieldsBF 0x03 0 amount
  | .fadeV amount => fieldsBF 0x03 1 amount
  | .wheel pos => fieldsB 0x08 pos
  | .hsv2rgb => fieldsN 0x09
  | .rgb2hsv => fieldsN 0x0A
  | .sin8 x => fieldsB 0x10 x
  | .sin16 x => fieldsI 0x11 x
  | .tri16 x => fieldsI 0x12 x
  | .palcolor pid pos bri => fieldsP 0x18 pid pos bri
  | .getpix i => fieldsI 0x20 i
  | .setpix i => fieldsI 0x21 i
  | .fill => fieldsN 0x22
  | .fadeout amount => fieldsB 0x23 amount
  | .blur amount => fieldsB 0x24 amount
  | .now => fieldsN 0x25
  | .segpal i bri => fieldsPF 0x26 0 i bri
  | .segpalI i bri => fieldsPF 0x26 1 i bri
  | .getcolor i => fieldsI 0x27 i
  | .reset => fieldsN 0x28
  | .fxStatic => fieldsB 0x30 0
  | .fxBlink => fieldsB 0x30 1
  | .fxStrobe => fieldsB 0x30 2
  | .fxBreathe => fieldsB 0x30 3
  | .fxFade => fieldsB 0x30 4
  | .fxScan => fieldsB 0x30 5
  | .fxDualScan => fieldsB 0x30 6
  | .fxRainbow => fieldsB 0x30 7
  | .fxRainbowCycle => fieldsB 0x30 8
  | .fxTheater => fieldsB 0x30 9
  | .fxRunning => fieldsB 0x30 10
  | .fxWipe => fieldsB 0x30 11
  | .fxRandomColor => fieldsB 0x30 12
  | .fxDynamic => fieldsB 0x30 13
  | .fxTwinkle => fieldsB 0x30 14
  | .fxSparkle => fieldsB 0x30 15
  | .effect id => fieldsB 0x30 id

/-- The command word of an instruction (R79). -/
def encode (i : Instr) : Word := assemble (encodeFields i)

/-- One row of the table of R73: a word `w` is the command iff `w & mask = pattern`. -/
structure CommandRow where
  name : String
  pattern : Word
  mask : Word
  deriving DecidableEq, Repr

/-- The table of R73, its columns "match" and "mask". The decoder does not use it: it says again, bit by
bit, which words are legal (R74). -/
def commandRows : List CommandRow :=
  [ ⟨"BLEND", 0x04000000#32, 0xFF00FFFF#32⟩,
    ⟨"ADD", 0x08000000#32, 0xFEFFFFFF#32⟩,
    ⟨"FADE", 0x0C000000#32, 0xFE00FFFF#32⟩,
    ⟨"WHEEL", 0x20000000#32, 0xFF00FFFF#32⟩,
    ⟨"HSV2RGB", 0x24000000#32, 0xFFFFFFFF#32⟩,
    ⟨"RGB2HSV", 0x28000000#32, 0xFFFFFFFF#32⟩,
    ⟨"SIN8", 0x40000000#32, 0xFF00FFFF#32⟩,
    ⟨"SIN16", 0x44000000#32, 0xFFFF0000#32⟩,
    ⟨"TRI16", 0x48000000#32, 0xFFFF0000#32⟩,
    ⟨"PALCOLOR", 0x60000000#32, 0xFF000000#32⟩,
    ⟨"GETPIX", 0x80000000#32, 0xFFFF0000#32⟩,
    ⟨"SETPIX", 0x84000000#32, 0xFFFF0000#32⟩,
    ⟨"FILL", 0x88000000#32, 0xFFFFFFFF#32⟩,
    ⟨"FADEOUT", 0x8C000000#32, 0xFF00FFFF#32⟩,
    ⟨"BLUR", 0x90000000#32, 0xFF00FFFF#32⟩,
    ⟨"NOW", 0x94000000#32, 0xFFFFFFFF#32⟩,
    ⟨"SEGPAL", 0x98000000#32, 0xFE000000#32⟩,
    ⟨"GETCOLOR", 0x9C000000#32, 0xFFFF0000#32⟩,
    ⟨"RESET", 0xA0000000#32, 0xFFFFFFFF#32⟩,
    ⟨"EFFECT", 0xC0000000#32, 0xFF00FFFF#32⟩ ]

end Sys2Proof
end

