-- ==== Sys2Proof/Config.lean ====
section
/-! DEFINITION. The OPEN parameters of the hardware (spec/00_scope.md R5, spec/43_palette.md R130,
spec/93_implementation_defined.md U5 to U9) and the free values of the model.  A parameter is plain
data, carried by `State.cfg`, so that a statement about every state holds for every platform; the
constants without a body below are what the state after reset is built from, and nothing can be
proved about their values. -/

namespace Sys2Proof

/-- One stop (keyframe) of a palette: a position 0 to 255 and a colour word (R130). -/
structure Stop where
  pos : Byte
  color : Color
  deriving DecidableEq, Repr, Inhabited

/-- A stop list of `n >= 1` stops (R130): the first one and the others in order. -/
structure Palette where
  first : Stop
  rest : List Stop
  deriving DecidableEq, Repr, Inhabited

/-- All stops of a palette, in order (R130). -/
def Palette.stops (p : Palette) : List Stop := p.first :: p.rest

/-- Positions strictly increasing from one stop to the next. -/
def stopsRising : List Stop → Bool
  | [] => true
  | [_] => true
  | p :: q :: rest => p.pos.toNat < q.pos.toNat && stopsRising (q :: rest)

/-- A well-formed stop list: strictly increasing positions; `n >= 1` holds by the type (R130). -/
def Palette.wf (p : Palette) : Bool := stopsRising p.stops

/-- The OPEN parameters of R5: `NUM_LEDS`, `DATA_CAP`, `PAL` (a partial map from palette ids, first
entry wins) and `PAL_DEFAULT`. -/
structure Config where
  numLeds : Nat
  dataCap : Nat
  pal : List (Byte × Palette)
  palDefault : Palette
  deriving DecidableEq, Repr

/-- The bounds R5 puts on the parameters, and the well-formedness R130 takes as a hypothesis. -/
def Config.wf (c : Config) : Bool :=
  1 ≤ c.numLeds && c.numLeds ≤ 32767 && c.dataCap ≤ 16384 &&
    c.pal.all (fun e => e.2.wf) && c.palDefault.wf

/-- OPEN, assumption 4: any number; `Config.platform` brings it into the bounds of R5. -/
opaque Config.openNumLeds : Nat

/-- OPEN, assumption 4: any number; `Config.platform` brings it into the bounds of R5. -/
opaque Config.openDataCap : Nat

/-- OPEN, assumption 4: any map; `Config.platform` keeps its well-formed entries. -/
opaque Config.openPal : List (Byte × Palette)

/-- OPEN, assumption 4: any stop list; `Config.platform` keeps its first stop only if it is not
well-formed. -/
opaque Config.openPalDefault : Palette

/-- The parameters of the machine right after reset: within the bounds of R5 and R130, otherwise
unknown (assumption 4). -/
def Config.platform : Config where
  numLeds := Config.openNumLeds % 32767 + 1
  dataCap := Config.openDataCap % 16385
  pal := Config.openPal.filter (fun e => e.2.wf)
  palDefault :=
    if Config.openPalDefault.wf then Config.openPalDefault
    else ⟨Config.openPalDefault.first, []⟩

/-- FREE VALUE, assumption 5: the content of PIX element `k` after hardware reset number `boot`
(`PIX_INIT` of R35, U8). -/
opaque Config.pixInit (boot k : Nat) : Color

/-- FREE VALUE, assumption 2: how many milliseconds pass before the event whose gap is the `n`-th
one that the input list does not give (R16, R207, U3, U4). -/
opaque Config.freeGap (n : Nat) : Nat

/-- FREE VALUE, assumption 3: the `n`-th raw answer of the random source that the input list does
not give (R17, R208, U5). -/
opaque Config.freeDraw (n : Nat) : Nat

end Sys2Proof
end

