-- ==== Sys2Proof/Machine/State.lean ====
section
/-! DEFINITION. The state of the machine, as plain data (spec/10_state.md, spec/20_memory.md R50 to
R54), why a step can stop, and the state after hardware reset (R39, R220).  The engine has no program
counter (R21): what it does next is the next event on its ports, which `Env.host` lists. -/

namespace Sys2Proof.Machine

/-- Something that happens to the engine from outside, between two commands. -/
inductive Event where
  /-- The host transaction `WR(addr, data)` (R51). -/
  | wr (addr : Half) (data : Word)
  /-- The host transaction `RD(addr)` (R51). -/
  | rd (addr : Half)
  /-- Another engine of the platform writes element `k` of the shared PIX (R209; assumption 11). -/
  | foreign (k : Nat) (c : Color)
  /-- The platform asserts hardware reset (R220; assumption 12). -/
  | hardReset
  deriving DecidableEq, Repr

/-- The agents around the engine, which R6 and R16 and R17 make inputs of the step. The model's own
fields (assumptions 1, 2, 3, 8, 9). -/
structure Env where
  /-- The events still to come, oldest first (assumption 1). -/
  host : List Event
  /-- `CLK`, the platform's millisecond clock, which never decreases (R207). -/
  clk : Nat
  /-- Milliseconds that pass before each coming event, as far as the input gives them
  (assumption 2). -/
  gaps : List Nat
  /-- How many gaps have been taken; indexes `Config.freeGap` (assumption 2). -/
  gapCount : Nat
  /-- Raw answers of the random source, as far as the input gives them (assumption 3). -/
  draws : List Nat
  /-- How many draws have been taken; indexes `Config.freeDraw` (assumption 3). -/
  drawCount : Nat
  /-- What the last `RD` returned to the host (R51; assumption 8). -/
  rdata : Word
  deriving DecidableEq, Repr

/-- Why the machine could stop with a fault: never. "The engine raises no synchronous exception"
(R200), and nothing in this hardware is treated as a fault (spec/93_implementation_defined.md
Part 1). Nothing raises one, which is what the spec says. -/
inductive Fault
  deriving DecidableEq, Repr

/-- Why a step could have no meaning. -/
inductive Refusal where
  /-- Raised by an arm of `exec` whose instruction has no meaning yet; no arm does. Safe: the step
  has no next state. -/
  | notModelled (mnemonic : String)
  deriving DecidableEq, Repr

/-- The state of one engine with its memories (R20 to R39). -/
structure State where
  /-- Register `A`, first operand (R20). -/
  a : Word
  /-- Register `B`, second operand (R20). -/
  b : Word
  /-- Register `R`, result; read-only to the host (R20). -/
  r : Word
  /-- `STATUS.ILL`, bit 0 of `STATUS`; the other bits are not state (R22). -/
  ill : Bool
  /-- Register `START` (R23). -/
  segStart : Half
  /-- Register `END` (R23). -/
  segEnd : Half
  /-- Register `COLOR0` (R25). -/
  color0 : Color
  /-- Register `COLOR1` (R25). -/
  color1 : Color
  /-- Register `COLOR2` (R25). -/
  color2 : Color
  /-- Register `SPEED` (R26). -/
  speed : Byte
  /-- Register `INTENSITY` (R26). -/
  intensity : Byte
  /-- Register `CUSTOM1` (R27). -/
  custom1 : Byte
  /-- Register `CUSTOM2` (R27). -/
  custom2 : Byte
  /-- Register `CUSTOM3` (R27). -/
  custom3 : Byte
  /-- Register `PALETTE_ID` (R28). -/
  paletteId : Byte
  /-- Register `CALL`, the frame counter (R29). -/
  call : Word
  /-- Register `STEP`, the phase marker (R30). -/
  step : Word
  /-- Register `AUX0` (R31). -/
  aux0 : Word
  /-- Register `AUX1` (R31). -/
  aux1 : Word
  /-- Register `DATA_LEN`; read-only to the host (R32). -/
  dataLen : Half
  /-- `DATA`: listed bytes; an unlisted byte reads `dataUnlisted` (R32, R54). -/
  data : List Host.Cell
  /-- `PIX`: the elements written since hardware reset; every other one is unspecified (R35, R53;
  assumption 5). -/
  pix : List (Nat × Color)
  /-- `T0`, the clock origin, latched at hardware reset (R37, R207). -/
  t0 : Nat
  /-- The model's own: hardware resets since the first, which index `Config.pixInit` (assumption 12). -/
  boots : Nat
  /-- The platform's parameters, which no step changes (R5, R36; assumption 4). -/
  cfg : Config
  /-- The model's own: the agents around the engine (R6; assumptions 1 to 3, 8, 9). -/
  env : Env
  deriving DecidableEq, Repr

/-! One named update per field a step writes. -/

def State.setA (s : State) (v : Word) : State := { s with a := v }
def State.setB (s : State) (v : Word) : State := { s with b := v }
def State.setR (s : State) (v : Word) : State := { s with r := v }
def State.setIll (s : State) (v : Bool) : State := { s with ill := v }
def State.setSegStart (s : State) (v : Half) : State := { s with segStart := v }
def State.setSegEnd (s : State) (v : Half) : State := { s with segEnd := v }
def State.setColor0 (s : State) (v : Color) : State := { s with color0 := v }
def State.setColor1 (s : State) (v : Color) : State := { s with color1 := v }
def State.setColor2 (s : State) (v : Color) : State := { s with color2 := v }
def State.setSpeed (s : State) (v : Byte) : State := { s with speed := v }
def State.setIntensity (s : State) (v : Byte) : State := { s with intensity := v }
def State.setCustom1 (s : State) (v : Byte) : State := { s with custom1 := v }
def State.setCustom2 (s : State) (v : Byte) : State := { s with custom2 := v }
def State.setCustom3 (s : State) (v : Byte) : State := { s with custom3 := v }
def State.setPaletteId (s : State) (v : Byte) : State := { s with paletteId := v }
def State.setCall (s : State) (v : Word) : State := { s with call := v }
def State.setStep (s : State) (v : Word) : State := { s with step := v }
def State.setAux0 (s : State) (v : Word) : State := { s with aux0 := v }
def State.setAux1 (s : State) (v : Word) : State := { s with aux1 := v }
def State.setDataLen (s : State) (v : Half) : State := { s with dataLen := v }
def State.setData (s : State) (v : List Host.Cell) : State := { s with data := v }
def State.setPix (s : State) (v : List (Nat × Color)) : State := { s with pix := v }
def State.setEnv (s : State) (v : Env) : State := { s with env := v }

/-- The agents at power-on: nothing pending, no input given (assumptions 1, 2, 3, 8, 9). -/
def Env.reset : Env where
  host := []
  clk := 0
  gaps := []
  gapCount := 0
  draws := []
  drawCount := 0
  rdata := 0

/-- The machine right after hardware reset: the table of R39; PIX unspecified (nothing listed), DATA
zero (nothing listed), the clock origin latched so that `Now() = 0`. -/
def State.reset : State where
  a := 0
  b := 0
  r := 0
  ill := false
  segStart := 0
  segEnd := 0
  color0 := 0x00FF0000#32
  color1 := 0x000000FF#32
  color2 := 0x0000FF00#32
  speed := 128
  intensity := 128
  custom1 := 0
  custom2 := 0
  custom3 := 0
  paletteId := 0
  call := 0
  step := 0
  aux0 := 0
  aux1 := 0
  dataLen := 0
  data := []
  pix := []
  t0 := Env.reset.clk
  boots := 0
  cfg := Config.platform
  env := Env.reset

end Sys2Proof.Machine
end

