-- ==== Sys2Proof/Machine/Flags.lean ====
section
/-! DEFINITION. The one flag of the machine, `STATUS.ILL` (spec/10_state.md R22, spec/60_exceptions.md
R202).  There are no condition codes: arithmetic records nothing (R22). -/

namespace Sys2Proof.Machine

/-- Set `STATUS.ILL`; it is sticky (R22). -/
def raiseIll (s : State) : State := s.setIll true

/-- `STATUS` as the host reads it: `ILL` in bit 0, bits 31:1 zero (R22). -/
def statusWord (s : State) : Word := if s.ill then 1 else 0

/-- A host write to `STATUS`: bit 0 equal to 1 clears `ILL`, everything else is ignored (R22). -/
def statusWrite (d : Word) (s : State) : State := s.setIll (s.ill && !d.getLsbD 0)

end Sys2Proof.Machine
end

