-- ==== Sys2Proof/Machine/Constants.lean ====
section
/-! DEFINITION. The parameters that the spec fixes, as named constants (spec/00_scope.md R5): the widths
of a channel, a colour, a hue and the elapsed time; the source's numbers; and the ones the spec takes
from general knowledge (spec/93_implementation_defined.md Part 2, K1 to K16; assumption 16). The
register widths of R5 are the types `Byte`, `Half`, `Word` of the fields of State. The OPEN parameters
are in Sys2Proof/Config.lean. -/

namespace Sys2Proof.Machine

/-! ### Widths -/

/-- `CHAN_BITS`, bits per colour channel (R5, R10). -/
abbrev chanBits : Nat := 8

/-- `COLOR_BITS`, bits of a packed colour word (R5, R10). -/
abbrev colorBits : Nat := 32

/-- `HUE_BITS`, bits of a hue (R5, R112, R114). -/
abbrev hueBits : Nat := 16

/-- `TIME_BITS`, bits of the elapsed time (R5, R207; D11). -/
abbrev timeBits : Nat := 32

/-! ### Delays, hue regions, Twinkle's generator, the sine table -/

/-- `FRAMETIME`, the base frame delay in ms (R5, R163). -/
def frameTime : Nat := 24

/-- `STATIC_FIRST_DELAY`, ms (R5, R164). -/
def staticFirstDelay : Nat := 350

/-- `HUE_REGION`, the width of one of six hue regions (R5, R112, R114). -/
def hueRegion : Nat := 10923

/-- `TWINKLE_FADE` (R5, R185). -/
def twinkleFade : Nat := 224

/-- `LCG_MUL` (R5, R185). -/
def lcgMul : Nat := 2053

/-- `LCG_ADD` (R5, R185). -/
def lcgAdd : Nat := 13849

/-- `LCG_MOD` (R5, R185). -/
def lcgMod : Nat := 65536

/-- `WIPE_REVERSE_BACK`: Color Wipe's second phase runs from the far end (R5, R182, D45). -/
def wipeReverseBack : Bool := true

/-- `SIN_LUT`, the quarter-wave table `T[0]` to `T[64]` of R120 (assumption 15). -/
def sinLut : List Nat :=
  [0, 804, 1608, 2410, 3212, 4011, 4808, 5602] ++
  [6393, 7179, 7962, 8739, 9512, 10278, 11039, 11793] ++
  [12539, 13279, 14010, 14732, 15446, 16151, 16846, 17530] ++
  [18204, 18868, 19519, 20159, 20787, 21403, 22005, 22594] ++
  [23170, 23731, 24279, 24811, 25329, 25832, 26319, 26790] ++
  [27245, 27683, 28105, 28510, 28898, 29268, 29621, 29956] ++
  [30273, 30571, 30852, 31113, 31356, 31580, 31785, 31971] ++
  [32137, 32285, 32412, 32521, 32609, 32678, 32728, 32757] ++
  [32767]

/-! ### HSV conversion (R112; K1, D22) -/

/-- The number of hue regions, by which an offset inside a region is scaled (R112). -/
def hueSectors : Nat := 6

/-- The shift `>> 8` of the sector interpolation (R112). -/
def hsvShift : Nat := 8

/-! ### Effect constants (K4 to K16, D38 to D49)

A cycle length is `BASE + (255 - SPEED) * SCALE` in ms (R162). -/

/-- The greatest value of an 8-bit parameter: the `255` of `255 - SPEED` (R162, R26). -/
def paramMax : Nat := 255

/-- `BASE + (255 - SPEED) * SCALE` (R162). -/
def cycleLength (base scale speed : Nat) : Nat := base + (paramMax - speed) * scale

/-- Blink and Strobe: what the cycle length grows by (R165, R166; D38). -/
def blinkScale : Nat := 20

/-- Blink and Strobe: the shortest cycle, `2 * FRAMETIME` ms (R165, R166; D38). -/
def blinkBase : Nat := 48

/-- Blink and Strobe: `(255 - SPEED) * 20 + 48` (R165, R166; D38). -/
def blinkCycle (speed : Nat) : Nat := cycleLength blinkBase blinkScale speed

/-- Blink's and Strobe's shortest on window, ms (R165, R166; D38). -/
def minimalOn : Nat := 24

/-- Blink: the shift of the INTENSITY-sized part of the on window (R165; D38). -/
def blinkOnShift : Nat := 8

/-- The 16 bits to which the counters of Breathe, Fade and Rainbow are masked (R167, R168, R171). -/
def counterBits : Nat := 16

/-- Breathe and Fade: the shift of SPEED in the rate (R167, R168; D39, D40). -/
def breatheRateShift : Nat := 3

/-- Breathe and Fade: the slowest rate (R167, R168; D39, D40). -/
def breatheRateBase : Nat := 10

/-- Breathe's and Fade's rate `(SPEED >> 3) + 10` (R167, R168; D39, D40). -/
def breatheRate (speed : Nat) : Nat := speed / 2 ^ breatheRateShift + breatheRateBase

/-- Breathe: the first shift of the compression `(c >> 2) + (c >> 4)` (R167; D39). -/
def breatheCoarseShift : Nat := 2

/-- Breathe: the second shift of the compression `(c >> 2) + (c >> 4)` (R167; D39). -/
def breatheFineShift : Nat := 4

/-- Breathe: from here on the luminance rests at its floor (R167; D39). -/
def breatheRest : Nat := 16384

/-- Breathe: the counter is folded back above this (R167; D39). -/
def breatheFold : Nat := 8192

/-- Breathe: the divisor of the sine (R167; D39). -/
def breatheDivisor : Nat := 103

/-- Breathe's floor of the luminance (R167; D39). -/
def breatheFloor : Nat := 30

/-- Fade: the shift from the triangle wave to a luminance (R168; D40). -/
def fadeShift : Nat := 8

/-- The scale of the progress through a cycle in Scan and Color Wipe (R169, R182; D41, D45). -/
def progressScale : Nat := 65535

/-- Scan and Dual-Scan: the shortest cycle, ms (R169; D41). -/
def scanBase : Nat := 750

/-- Scan and Dual-Scan: what the cycle length grows by (R169; D41). -/
def scanScale : Nat := 150

/-- Scan and Dual-Scan: `750 + (255 - SPEED) * 150` (R169; D41). -/
def scanCycle (speed : Nat) : Nat := cycleLength scanBase scanScale speed

/-- Scan: the shift of `INTENSITY * L` in the window size (R169; D41). -/
def scanSizeShift : Nat := 9

/-- Scan: there and back, the factor 2 of `2*L - 2*size` (R169; D41). -/
def scanTravel : Nat := 2

/-- Scan: the shift of the window's travel (R169; D41). -/
def scanShift : Nat := 16

/-- Rainbow and Rainbow-Cycle: the shift of SPEED in the rate (R171, R172; D42). -/
def rainbowRateShift : Nat := 2

/-- Rainbow and Rainbow-Cycle: the slowest rate (R171, R172; D42). -/
def rainbowRateBase : Nat := 2

/-- Rainbow's and Rainbow-Cycle's rate `(SPEED >> 2) + 2` (R171, R172; D42). -/
def rainbowRate (speed : Nat) : Nat := speed / 2 ^ rainbowRateShift + rainbowRateBase

/-- Rainbow and Rainbow-Cycle: the shift from the counter to a hue (R171, R172; D42). -/
def rainbowShift : Nat := 8

/-- Rainbow: an INTENSITY below this desaturates, by the difference (R171; D42). -/
def desaturateBelow : Nat := 128

/-- Rainbow-Cycle: the `16` of `16 << (INTENSITY / 29)` (R172; the source's). -/
def rainbowCycleFactor : Nat := 16

/-- Rainbow-Cycle: the `29` of `16 << (INTENSITY / 29)` (R172; the source's). -/
def rainbowCycleDivisor : Nat := 29

/-- The 8 bits to which the hue index of Rainbow-Cycle and the wheel positions of Random Color are
masked (R172, R183). -/
def wheelBits : Nat := 8

/-- Theater Chase: the shortest cycle, ms (R180; D43). -/
def theaterBase : Nat := 50

/-- Theater Chase: what the cycle length grows by (R180; D43). -/
def theaterScale : Nat := 2

/-- Theater Chase: `50 + (255 - SPEED) * 2` (R180; D43). -/
def theaterCycle (speed : Nat) : Nat := cycleLength theaterBase theaterScale speed

/-- Theater Chase: the `3` of `N = 3 + INTENSITY / 16` (R180; the source's). -/
def theaterMinWidth : Nat := 3

/-- Theater Chase: the `16` of `N = 3 + INTENSITY / 16` (R180; the source's). -/
def theaterDivisor : Nat := 16

/-- Running Lights: the shift of INTENSITY in the phase step (R181; D44). -/
def runningShift : Nat := 2

/-- Running Lights: the bits at which `t * SPEED` wraps (R181; D44). -/
def runningCounterBits : Nat := 32

/-- Running Lights: the shift of the time counter (R181; D44). -/
def runningTimeShift : Nat := 9

/-- Color Wipe: the shortest cycle, ms (R182; D45). -/
def wipeBase : Nat := 750

/-- Color Wipe: what the cycle length grows by (R182; D45). -/
def wipeScale : Nat := 150

/-- Color Wipe: `750 + (255 - SPEED) * 150` (R182; D45). -/
def wipeCycle (speed : Nat) : Nat := cycleLength wipeBase wipeScale speed

/-- Color Wipe: the last progress of the first phase, and what the second phase subtracts (R182;
D45). -/
def wipeMiddle : Nat := 32767

/-- Color Wipe: the shift to the boundary pixel (R182; D45). -/
def wipeShift : Nat := 15

/-- Color Wipe: the factor of the sub-pixel remainder (R182; D45). -/
def wipeRemFactor : Nat := 2

/-- Color Wipe: the bits of the sub-pixel remainder (R182; D45). -/
def wipeRemBits : Nat := 16

/-- Color Wipe: the `1` of the divisor `INTENSITY + 1` (R182; D45). -/
def wipeSoftness : Nat := 1

/-- Color Wipe: the cap of the boundary pixel's weight (R182; D45). -/
def wipeRemCap : Nat := 255

/-- Random Color: the shortest cycle, ms (R183; D46). -/
def randomColorBase : Nat := 200

/-- Random Color: what the cycle length grows by (R183; D46). -/
def randomColorScale : Nat := 50

/-- Random Color: `200 + (255 - SPEED) * 50` (R183; D46). -/
def randomColorCycle (speed : Nat) : Nat := cycleLength randomColorBase randomColorScale speed

/-- Random Color: the shift of the fade duration (R183; D46). -/
def randomColorShift : Nat := 8

/-- Random Color: the full weight of the target colour (R183; D46). -/
def randomColorWeightMax : Nat := 255

/-- Random Color and Dynamic: how many wheel positions a draw chooses from (R183, R184; D46, D47). -/
def wheelPositions : Nat := 256

/-- Dynamic: the shortest cycle, ms (R184; D47). -/
def dynamicBase : Nat := 50

/-- Dynamic: what the cycle length grows by (R184; D47). -/
def dynamicScale : Nat := 15

/-- Dynamic: `50 + (255 - SPEED) * 15` (R184; D47). -/
def dynamicCycle (speed : Nat) : Nat := cycleLength dynamicBase dynamicScale speed

/-- Dynamic: a pixel changes with probability `INTENSITY / 255` (R184; D47). -/
def dynamicChance : Nat := 255

/-- Twinkle: the shortest cycle, ms (R185; D48). -/
def twinkleBase : Nat := 20

/-- Twinkle: what the cycle length grows by (R185; D48). -/
def twinkleScale : Nat := 5

/-- Twinkle: `20 + (255 - SPEED) * 5` (R185; D48). -/
def twinkleCycle (speed : Nat) : Nat := cycleLength twinkleBase twinkleScale speed

/-- Twinkle: the divisor of the cap of active sparks (R185; D48). -/
def twinkleCapDivisor : Nat := 255

/-- Twinkle: the shift from a generator value to a position (R185; D48). -/
def twinkleShift : Nat := 16

/-- Sparkle: the shortest cycle, ms (R186; D49). -/
def sparkleBase : Nat := 10

/-- Sparkle: what the cycle length grows by (R186; D49). -/
def sparkleScale : Nat := 2

/-- Sparkle: `10 + (255 - SPEED) * 2` (R186; D49). -/
def sparkleCycle (speed : Nat) : Nat := cycleLength sparkleBase sparkleScale speed

end Sys2Proof.Machine
end

