-- ==== Sys2Proof/Machine/Operands.lean ====
section
/-! DEFINITION. Operand forms: colour words and their channels, operand assembly from the fields of a
command word, HSV words, and the masks of the notation (spec/00_scope.md R7 to R12,
spec/30_encoding.md R72, spec/41_hue_hsv.md R116).  Values are exact integers; a width is applied only
where a rule says so (R84). -/

namespace Sys2Proof.Machine

/-- The four channels of a colour word, most significant first (R10). -/
inductive Channel where
  | W
  | R
  | G
  | B
  deriving DecidableEq, Repr

/-- The place of a channel's least significant bit: `W = c[31:24]`, `R = c[23:16]`, `G = c[15:8]`,
`B = c[7:0]` (R10). -/
def Channel.low : Channel → Nat
  | .W => 24
  | .R => 16
  | .G => 8
  | .B => 0

/-- `c.W`, `c.R`, `c.G`, `c.B` (R10). -/
def chan (k : Channel) (c : Color) : Nat := c.toNat / 2 ^ k.low % 2 ^ chanBits

/-- `Color(w, r, g, b)` for four values in [0,255] (R10). -/
def mkColor (w r g b : Nat) : Color :=
  BitVec.ofNat colorBits
    (w % 2 ^ chanBits * 2 ^ Channel.W.low + r % 2 ^ chanBits * 2 ^ Channel.R.low +
      g % 2 ^ chanBits * 2 ^ Channel.G.low + b % 2 ^ chanBits * 2 ^ Channel.B.low)

/-- The lane rule: one formula for the four channels, nothing crosses a channel boundary (R12). -/
def lanes (f : Channel → Nat) : Color := mkColor (f .W) (f .R) (f .G) (f .B)

/-- `clamp8(y) = min(max(y, 0), 255)` on a value that is not negative (R12). -/
def clamp8 (y : Nat) : Nat := min y (2 ^ chanBits - 1)

/-- `WHITE` (R10). -/
def white : Color := mkColor 0 255 255 255

/-- `zext_8`: the `b` field as an operand (R72 (a)). -/
def zext8 (b : Byte) : Nat := b.toNat

/-- `zext_16`: `imm16` as an angle (R72 (b)). -/
def zext16 (x : Half) : Nat := x.toNat

/-- `sext_16`: `imm16` as an index (R72 (c)). -/
def sext16 (x : Half) : Int := x.toInt

/-- `y & 0xFF`, also for a negative `y` (R8). -/
def mask8 (y : Int) : Nat := (y % 256).toNat

/-- `y & 0xFFFF` on a hue, also for a negative `y` (R8, R114). -/
def maskHue (y : Int) : Nat := (y % 2 ^ hueBits).toNat

/-- Storing an integer in a 32-bit register stores it `mod 2^32` (R9). -/
def toWord (y : Int) : Word := BitVec.ofInt 32 y

/-- Storing a natural number in a 32-bit register stores it `mod 2^32` (R9). -/
def natWord (y : Nat) : Word := BitVec.ofNat 32 y

/-- The hue of an HSV word, bits 31:16 (R116). -/
def hueOf (x : Word) : Nat := x.toNat / 65536

/-- The saturation of an HSV word, bits 15:8 (R116). -/
def satOf (x : Word) : Nat := x.toNat / 256 % 256

/-- The value of an HSV word, bits 7:0 (R116). -/
def valOf (x : Word) : Nat := x.toNat % 256

/-- `Hsv(h, s, v) = {h, s, v}` (R116). -/
def hsvWord (h s v : Nat) : Word :=
  BitVec.ofNat 32 (h % 2 ^ hueBits * 65536 + s % 256 * 256 + v % 256)

end Sys2Proof.Machine
end

