-- ==== Sys2Proof/Machine/Ops.lean ====
section
/-! DEFINITION. The operations that every command is written over: memory cells, PIX and DATA, the
clock and the random source, the segment's base-and-bound rule, loops, the illegal command word, and
hardware reset (spec/00_scope.md R14 to R17, spec/20_memory.md, spec/44_segment.md R140, R141,
spec/60_exceptions.md).  There is no trap entry and no return (R205): `illegalCommand` is all that the
machine has in their place. -/

namespace Sys2Proof.Machine

/-! ### Memory: lists of (index, element) cells in one canonical form -/

/-- The element listed at index `a`, if any. -/
def Memory.find {w : Nat} : List (Nat × BitVec w) → Nat → Option (BitVec w)
  | [], _ => none
  | (k, v) :: m, a => if a = k then some v else Memory.find m a

/-- List `x` at index `a`, keeping the indices rising. -/
def Memory.insert {w : Nat} : List (Nat × BitVec w) → Nat → BitVec w → List (Nat × BitVec w)
  | [], a, x => [(a, x)]
  | (k, v) :: m, a, x =>
    if a < k then (a, x) :: (k, v) :: m
    else if a = k then (a, x) :: m
    else (k, v) :: Memory.insert m a x

/-- List nothing at index `a`. -/
def Memory.erase {w : Nat} : List (Nat × BitVec w) → Nat → List (Nat × BitVec w)
  | [], _ => []
  | (k, v) :: m, a => if a = k then m else (k, v) :: Memory.erase m a

/-- Write `x` at index `a`; the value that an unlisted element reads as is not listed. -/
def Memory.write {w : Nat} (unlisted : Option (BitVec w)) (m : List (Nat × BitVec w)) (a : Nat)
    (x : BitVec w) : List (Nat × BitVec w) :=
  if some x = unlisted then Memory.erase m a else Memory.insert m a x

/-- Indices strictly rising. -/
def Memory.rising {w : Nat} : List (Nat × BitVec w) → Bool
  | [] => true
  | [_] => true
  | p :: q :: m => p.1 < q.1 && Memory.rising (q :: m)

/-- The canonical form: indices strictly rising and below the memory's size, and no cell that holds
what an unlisted element reads as. -/
def Memory.wf {w : Nat} (limit : Nat) (unlisted : Option (BitVec w)) (m : List (Nat × BitVec w)) :
    Bool :=
  Memory.rising m && m.all (fun c => decide (c.1 < limit) && decide (some c.2 ≠ unlisted))

/-- An unlisted byte of DATA reads 0: hardware reset zeroes every byte (R32, R39). -/
def dataUnlisted : Option Byte := some 0

/-- An unlisted element of PIX has not been written since hardware reset: no value is fixed for it
(R35; assumption 5). -/
def pixUnlisted : Option Color := none

/-- `DataRead(k)` (R54). -/
def dataRead (k : Nat) (s : State) : Byte := (Memory.find s.data k).getD 0

/-- `DataWrite(k, v)` (R54). -/
def dataWrite (k : Nat) (v : Byte) (s : State) : State :=
  s.setData (Memory.write dataUnlisted s.data k v)

/-- `PixRead(k)` (R53); an element not written since hardware reset has its unspecified reset content
(R35, U8). -/
def pixRead (k : Nat) (s : State) : Color := (Memory.find s.pix k).getD (Config.pixInit s.boots k)

/-- `PixWrite(k, c)` (R53). -/
def pixWrite (k : Nat) (c : Color) (s : State) : State :=
  s.setPix (Memory.write pixUnlisted s.pix k c)

/-! ### Loops -/

/-- `for i in 0 .. n-1: f i`, in ascending order (R15). -/
def forUpTo {α : Type} : Nat → (Nat → α → α) → α → α
  | 0, _, x => x
  | n + 1, f, x => f n (forUpTo n f x)

/-! ### The segment -/

/-- `Len()`, written `L`: `END - START` if `END >= START`, else 0 (R24). -/
def State.len (s : State) : Nat := s.segEnd.toNat - s.segStart.toNat

/-- The base-and-bound rule: the absolute index of segment-relative index `i`, or nothing where the
access is dropped (R60). -/
def segIndex (i : Int) (s : State) : Option Nat :=
  if 0 ≤ i ∧ i < s.len ∧ s.segStart.toNat + i.toNat < s.cfg.numLeds then
    some (s.segStart.toNat + i.toNat)
  else none

/-- `SegGet(i)`: the zero colour where the access is dropped (R140). -/
def segGet (i : Int) (s : State) : Color :=
  match segIndex i s with
  | some k => pixRead k s
  | none => 0

/-- `SegSet(i, c)`: nothing where the access is dropped (R141). -/
def segSet (i : Int) (c : Color) (s : State) : State :=
  s.setPix
    (match segIndex i s with
    | some k => Memory.write pixUnlisted s.pix k c
    | none => s.pix)

/-- `for i in 0 .. L-1: SegSet(i, f i)`, for colours `f` that do not depend on PIX. -/
def paint (f : Nat → Color) (s : State) : State :=
  forUpTo s.len (fun i u => segSet i (f i) u) s

/-! ### The clock and the random source -/

/-- `Now() = (CLK - T0) mod 2^32`: one sample (R16, R207). -/
def now (s : State) : Word := BitVec.ofInt timeBits ((s.env.clk : Int) - (s.t0 : Int))

/-- Milliseconds before the next event: the input's, or a free value (assumption 2). -/
def nextGap (s : State) : Nat :=
  match s.env.gaps with
  | g :: _ => g
  | [] => Config.freeGap s.env.gapCount

/-- Time passes: `CLK` never decreases (R207, U3, U4). -/
def letTimePass (s : State) : State :=
  s.setEnv
    { s.env with
      clk := s.env.clk + nextGap s, gaps := s.env.gaps.tail, gapCount := s.env.gapCount + 1 }

/-- The random source's next raw answer: the input's, or a free value (assumption 3). -/
def nextDraw (s : State) : Nat :=
  match s.env.draws with
  | d :: _ => d
  | [] => Config.freeDraw s.env.drawCount

/-- `Rand(n)`: an integer in `[0, n)` under no law (R17, U5). -/
def rand (n : Nat) (s : State) : Nat := nextDraw s % n

/-- The state after one draw (R17). -/
def afterDraw (s : State) : State :=
  s.setEnv { s.env with draws := s.env.draws.tail, drawCount := s.env.drawCount + 1 }

/-! ### The illegal command word, and reset -/

/-- An illegal command word: `STATUS.ILL <- 1` and nothing else (R74, R202). -/
def illegalCommand (s : State) : State := raiseIll s

/-- Hardware reset while the platform runs: every register and memory as after `State.reset`, with a
fresh unspecified PIX, and the clock origin latched (R220, R221; assumption 12). The agents around the
engine and the platform's parameters stay. -/
def hardReset (s : State) : State :=
  { State.reset with t0 := s.env.clk, boots := s.boots + 1, cfg := s.cfg, env := s.env }

end Sys2Proof.Machine
end

