-- ==== Sys2Proof/Machine/ColorMix.lean ====
section
/-! DEFINITION. The colour mixer: BLEND, ADD, ADD.P, FADE, FADE.V (spec/40_color_mix.md). -/

namespace Sys2Proof.Machine

/-- `blend(c1, c2, amount)` (R100). -/
def blend (c1 c2 : Color) (amount : Nat) : Color :=
  if amount = 0 then c1
  else if amount = 255 then c2
  else lanes (fun k => (chan k c1 * (255 - amount) + chan k c2 * amount) / 255)

/-- The raw channel sum of `add`, 0 to 510 (R102). -/
def channelSum (c1 c2 : Color) (k : Channel) : Nat := chan k c1 + chan k c2

/-- The greatest of the four channel sums (R102). -/
def maxSum (c1 c2 : Color) : Nat :=
  max (max (channelSum c1 c2 .W) (channelSum c1 c2 .R))
    (max (channelSum c1 c2 .G) (channelSum c1 c2 .B))

/-- `add(c1, c2, preserveRatio)` (R102). -/
def add (c1 c2 : Color) (preserveRatio : Bool) : Color :=
  if c1 = 0 then c2
  else if c2 = 0 then c1
  else if preserveRatio ∧ 255 < maxSum c1 c2 then
    lanes (fun k => clamp8 (channelSum c1 c2 k * 255 / maxSum c1 c2))
  else lanes (fun k => clamp8 (channelSum c1 c2 k))

/-- One channel of `fadeToBlack` for an amount from 1 to 254 (R104). -/
def fadeChannel (x amount : Nat) (video : Bool) : Nat :=
  let y := x * (amount + 1) / 256
  if video ∧ x ≠ 0 ∧ y < 1 then 1 else y

/-- `fadeToBlack(c, amount, video)` (R104). -/
def fadeToBlack (c : Color) (amount : Nat) (video : Bool) : Color :=
  if amount = 0 then 0
  else if amount = 255 then c
  else lanes (fun k => fadeChannel (chan k c) amount video)

/-- BLEND (R101). -/
def execBlend (amount : Byte) (s : State) : Host.Outcome State Fault Refusal :=
  .next (s.setR (blend s.a s.b (zext8 amount)))

/-- ADD (R103). -/
def execAdd (s : State) : Host.Outcome State Fault Refusal :=
  .next (s.setR (add s.a s.b false))

/-- ADD.P (R103). -/
def execAddP (s : State) : Host.Outcome State Fault Refusal :=
  .next (s.setR (add s.a s.b true))

/-- FADE (R105). -/
def execFade (amount : Byte) (s : State) : Host.Outcome State Fault Refusal :=
  .next (s.setR (fadeToBlack s.a (zext8 amount) false))

/-- FADE.V (R105). -/
def execFadeV (amount : Byte) (s : State) : Host.Outcome State Fault Refusal :=
  .next (s.setR (fadeToBlack s.a (zext8 amount) true))

end Sys2Proof.Machine
end

