-- ==== Sys2Proof/Machine/Hue.lean ====
section
/-! DEFINITION. The hue unit: WHEEL, HSV2RGB, RGB2HSV (spec/41_hue_hsv.md). -/

namespace Sys2Proof.Machine

/-- `hueWheel(pos)` (R110). -/
def hueWheel (pos : Nat) : Color :=
  if pos < 85 then mkColor 0 (3 * pos) (255 - 3 * pos) 0
  else if pos < 170 then mkColor 0 (255 - 3 * (pos - 85)) 0 (3 * (pos - 85))
  else mkColor 0 0 (3 * (pos - 170)) (255 - 3 * (pos - 170))

/-- `hsvToRgb(h, s, v)` (R112). -/
def hsvToRgb (h s v : Nat) : Color :=
  if s = 0 then mkColor 0 v v v
  else
    let region := h / hueRegion
    let rem := (h - region * hueRegion) * hueSectors / 2 ^ hsvShift
    let p := v * (255 - s) / 2 ^ hsvShift
    let q := v * (255 - s * rem / 2 ^ hsvShift) / 2 ^ hsvShift
    let t := v * (255 - s * (255 - rem) / 2 ^ hsvShift) / 2 ^ hsvShift
    match region with
    | 0 => mkColor 0 v t p
    | 1 => mkColor 0 q v p
    | 2 => mkColor 0 p v t
    | 3 => mkColor 0 p q v
    | 4 => mkColor 0 t p v
    | _ => mkColor 0 v p q

/-- The hue of `rgbToHsv` before its mask, for `d = mx - mn > 0`; the divisions are floor divisions
of a dividend that may be negative; ties are broken red, green, blue (R114, R8). -/
def rawHue (r g b mx : Nat) (d : Nat) : Int :=
  if mx = r then (hueRegion : Int) * ((g : Int) - b) / d
  else if mx = g then 2 * (hueRegion : Int) + (hueRegion : Int) * ((b : Int) - r) / d
  else 4 * (hueRegion : Int) + (hueRegion : Int) * ((r : Int) - g) / d

/-- `rgbToHsv(c)`: hue, saturation, value; the white channel is ignored (R114). -/
def rgbToHsv (c : Color) : Nat × Nat × Nat :=
  let r := chan .R c
  let g := chan .G c
  let b := chan .B c
  let mx := max r (max g b)
  let mn := min r (min g b)
  let d := mx - mn
  if mx = 0 then (0, 0, 0)
  else
    let h : Int := if d = 0 then 0 else rawHue r g b mx d
    (maskHue h, 255 * d / mx, mx)

/-- WHEEL (R111). -/
def execWheel (pos : Byte) (s : State) : Host.Outcome State Fault Refusal :=
  .next (s.setR (hueWheel (zext8 pos)))

/-- HSV2RGB (R113). -/
def execHsv2rgb (s : State) : Host.Outcome State Fault Refusal :=
  .next (s.setR (hsvToRgb (hueOf s.a) (satOf s.a) (valOf s.a)))

/-- RGB2HSV (R115). -/
def execRgb2hsv (s : State) : Host.Outcome State Fault Refusal :=
  .next (s.setR (hsvWord (rgbToHsv s.a).1 (rgbToHsv s.a).2.1 (rgbToHsv s.a).2.2))

end Sys2Proof.Machine
end

