-- ==== Sys2Proof/Machine/Palette.lean ====
section
/-! DEFINITION. The palette unit: PALCOLOR (spec/43_palette.md).  A palette is well-formed by
hypothesis on the parameter, which the engine does not check (R130; assumption 17). -/

namespace Sys2Proof.Machine

/-- The entry of the partial map `PAL` for `pid`, if there is one (R130). -/
def palLookup (pid : Byte) : List (Byte × Palette) → Option Palette
  | [] => none
  | (k, p) :: m => if k = pid then some p else palLookup pid m

/-- `Stops(pid)`: `PAL[pid]`, or `PAL_DEFAULT` for an unknown id (R131). -/
def stopsOf (c : Config) (pid : Byte) : Palette := (palLookup pid c.pal).getD c.palDefault

/-- The colour between two neighbouring stops, `d` positions after the first of them (R132). -/
def between (p q : Stop) (pos : Nat) : Color :=
  let span := q.pos.toNat - p.pos.toNat
  let d := pos - p.pos.toNat
  lanes (fun x => (chan x p.color * (span - d) + chan x q.color * d) / span)

/-- `palInterp` from stop `p` on, for a position at or after it: the first neighbour `q` beyond `pos`
closes the bracket; after the last stop its colour is held (R132). -/
def interpFrom (p : Stop) (pos : Nat) : List Stop → Color
  | [] => p.color
  | q :: rest => if pos < q.pos.toNat then between p q pos else interpFrom q pos rest

/-- `palInterp(stops, pos)` (R132). -/
def palInterp (p : Palette) (pos : Nat) : Color :=
  if pos ≤ p.first.pos.toNat then p.first.color else interpFrom p.first pos p.rest

/-- The brightness scale `(c.x * bri) / 255` (R133). -/
def scaleBy (c : Color) (bri : Nat) : Color := lanes (fun x => chan x c * bri / 255)

/-- `colorFromPalette(pid, pos, bri)` (R133). -/
def colorFromPalette (c : Config) (pid : Byte) (pos bri : Nat) : Color :=
  scaleBy (palInterp (stopsOf c pid) pos) bri

/-- PALCOLOR; the segment's PALETTE_ID is not used (R134). -/
def execPalcolor (pid pos bri : Byte) (s : State) : Host.Outcome State Fault Refusal :=
  .next (s.setR (colorFromPalette s.cfg pid (zext8 pos) (zext8 bri)))

end Sys2Proof.Machine
end

