-- ==== Sys2Proof/Machine/Segment.lean ====
section
/-! DEFINITION. The segment unit: GETPIX, SETPIX, FILL, FADEOUT, BLUR, NOW, SEGPAL, SEGPAL.I, GETCOLOR,
RESET (spec/44_segment.md). -/

namespace Sys2Proof.Machine

/-- `fill(c)` (R144). -/
def fill (c : Color) (s : State) : State := paint (fun _ => c) s

/-- `fadeOut(amount)`: every pixel of the segment, never in video mode (R145). -/
def fadeOut (amount : Nat) (s : State) : State :=
  forUpTo s.len (fun i u => segSet i (fadeToBlack (segGet i u) amount false) u) s

/-- The new colour of pixel `i` in `blur`, from the colours `old` before it (R147). -/
def blurred (old : Nat → Color) (len h i : Nat) : Color :=
  if i = 0 then blend (old 0) (old 1) h
  else if i = len - 1 then blend (old (len - 1)) (old (len - 2)) h
  else blend (blend (old i) (old (i - 1)) h) (old (i + 1)) h

/-- `blur(amount)`: every neighbour value is the value before the blur (R147). -/
def blur (amount : Nat) (s : State) : State :=
  if amount = 0 ∨ s.len < 3 then s
  else paint (blurred (fun i => segGet i s) s.len (amount / 2)) s

/-- The palette position of `segPal`: the index rescaled by `255 / (L - 1)` with floor division, or
taken as it is; then masked (R151). -/
def segPalPos (index : Int) (useIndex : Bool) (len : Nat) : Nat :=
  if useIndex ∧ 1 < len then mask8 (index * 255 / ((len : Int) - 1)) else mask8 index

/-- `segPal(index, useIndex, bri)` (R151). -/
def segPal (index : Int) (useIndex : Bool) (bri : Nat) (s : State) : Color :=
  colorFromPalette s.cfg s.paletteId (segPalPos index useIndex s.len) bri

/-- `segPal(i)` with one argument, `segPal(i, true, 255)` (R151). -/
def segPalI (i : Nat) (s : State) : Color := segPal i true 255 s

/-- `getColor(i)` (R153). -/
def getColor (i : Int) (s : State) : Color :=
  if i = 0 then s.color0 else if i = 1 then s.color1 else if i = 2 then s.color2 else 0

/-- `reset()` of the segment: the scratch registers and the data buffer's length (R154). -/
def segReset (s : State) : State :=
  ((((s.setCall 0).setStep 0).setAux0 0).setAux1 0).setDataLen 0

/-- GETPIX (R142). -/
def execGetpix (i : Half) (s : State) : Host.Outcome State Fault Refusal :=
  .next (s.setR (segGet (sext16 i) s))

/-- SETPIX (R143). -/
def execSetpix (i : Half) (s : State) : Host.Outcome State Fault Refusal :=
  .next (segSet (sext16 i) s.a s)

/-- FILL (R144). -/
def execFill (s : State) : Host.Outcome State Fault Refusal :=
  .next (fill s.a s)

/-- FADEOUT (R146). -/
def execFadeout (amount : Byte) (s : State) : Host.Outcome State Fault Refusal :=
  .next (fadeOut (zext8 amount) s)

/-- BLUR (R148). -/
def execBlur (amount : Byte) (s : State) : Host.Outcome State Fault Refusal :=
  .next (blur (zext8 amount) s)

/-- NOW (R150). -/
def execNow (s : State) : Host.Outcome State Fault Refusal :=
  .next (s.setR (now s))

/-- SEGPAL (R152). -/
def execSegpal (i : Half) (bri : Byte) (s : State) : Host.Outcome State Fault Refusal :=
  .next (s.setR (segPal (sext16 i) false (zext8 bri) s))

/-- SEGPAL.I (R152). -/
def execSegpalI (i : Half) (bri : Byte) (s : State) : Host.Outcome State Fault Refusal :=
  .next (s.setR (segPal (sext16 i) true (zext8 bri) s))

/-- GETCOLOR (R153). -/
def execGetcolor (i : Half) (s : State) : Host.Outcome State Fault Refusal :=
  .next (s.setR (getColor (sext16 i) s))

/-- RESET, which leaves the bytes of DATA and the clock origin (R154, R221). -/
def execReset (s : State) : Host.Outcome State Fault Refusal :=
  .next (segReset s)

end Sys2Proof.Machine
end

