-- ==== Sys2Proof/Machine/Wave.lean ====
section
/-! DEFINITION. The wave unit: SIN8, SIN16, TRI16 (spec/42_wave.md). -/

namespace Sys2Proof.Machine

/-- `T[i]` of `SIN_LUT` (R120). -/
def sinTable (i : Nat) : Nat := sinLut.getD i 0

/-- The magnitude of the sine at offset `o`, 0 to 16384, of a rising quarter: linear interpolation
with floor (R121). -/
def quarterSine (o : Nat) : Nat :=
  let idx := o / 256
  let frac := o % 256
  if idx = 64 then sinTable 64
  else sinTable idx + (sinTable (idx + 1) - sinTable idx) * frac / 256

/-- `sin16(x)` for `x` from 0 to 65535 (R121). -/
def sin16 (x : Nat) : Int :=
  let quad := x / 16384
  let o := x % 16384
  let mag := quarterSine (if quad % 2 = 1 then 16384 - o else o)
  if quad < 2 then (mag : Int) else -(mag : Int)

/-- `sin8(x)` for `x` from 0 to 255 (R123). -/
def sin8 (x : Nat) : Nat := ((sin16 (x * 256) + 32768) / 256).toNat

/-- `triangleWave16(x)` for `x` from 0 to 65535 (R125). -/
def triangleWave16 (x : Nat) : Nat :=
  if x < 0x8000 then 2 * x else 0xFFFF - 2 * (x - 0x8000)

/-- SIN8 (R124). -/
def execSin8 (x : Byte) (s : State) : Host.Outcome State Fault Refusal :=
  .next (s.setR (natWord (sin8 (zext8 x))))

/-- SIN16: a negative result is stored in 32-bit two's complement (R122). -/
def execSin16 (x : Half) (s : State) : Host.Outcome State Fault Refusal :=
  .next (s.setR (toWord (sin16 (zext16 x))))

/-- TRI16 (R126). -/
def execTri16 (x : Half) (s : State) : Host.Outcome State Fault Refusal :=
  .next (s.setR (natWord (triangleWave16 (zext16 x))))

end Sys2Proof.Machine
end

