-- ==== Sys2Proof/Machine/EffectsA.lean ====
section
/-! DEFINITION. Effects 0 to 8: Static to Rainbow-Cycle (spec/45_effects_a.md R162 to R172).  An effect
takes the command's one clock sample `t` and answers the state it leaves and its frame delay in ms;
`R` and `CALL` are the EFFECT command's (R160). -/

namespace Sys2Proof.Machine

/-- What an effect answers: the state it leaves, and its frame delay (R160, R163). -/
structure Frame where
  state : State
  delay : Nat
  deriving DecidableEq, Repr

/-- The frame of every effect but Static ends with the base frame delay (R163). -/
def frame (s : State) : Frame := ⟨s, frameTime⟩

/-- A cycle boundary: the iteration index differs from the stored STEP (R162). -/
def boundary (it : Nat) (s : State) : Bool := it != s.step.toNat

/-- The palette gradient over the whole segment. -/
def paintPalette (s : State) : State := paint (fun i => segPalI i s) s

/-- `COLOR1` toward the palette colour, the same weight on every pixel. -/
def paintCrossfade (lum : Nat) (s : State) : State :=
  paint (fun i => blend s.color1 (segPalI i s) lum) s

/-- Effect 0, Static (R164). -/
def fxStatic (_t : Nat) (s : State) : Frame :=
  ⟨fill s.color0 s, if s.call = 0 then staticFirstDelay else frameTime⟩

/-- One frame of Blink or Strobe with cycle length `cyc` and on window `onT`: the comparison is
inclusive, a boundary forces "on", STEP is written every frame (R165, R166). -/
def blinkFrame (cyc onT t : Nat) (s : State) : Frame :=
  let it := t / cyc
  let on := boundary it s || decide (t % cyc ≤ onT)
  let u := s.setStep (natWord it)
  frame (if on then paintPalette u else fill u.color1 u)

/-- Effect 1, Blink (R165). -/
def fxBlink (t : Nat) (s : State) : Frame :=
  blinkFrame (blinkCycle s.speed.toNat)
    (minimalOn + cycleLength 0 blinkScale s.speed.toNat * s.intensity.toNat / 2 ^ blinkOnShift) t s

/-- Effect 2, Strobe: INTENSITY is not read (R166). -/
def fxStrobe (t : Nat) (s : State) : Frame :=
  blinkFrame (blinkCycle s.speed.toNat) minimalOn t s

/-- Breathe's luminance: the counter masked to 16 bits, compressed, folded, its sine scaled, above a
floor (R167). -/
def breatheLum (t speed : Nat) : Nat :=
  let c0 := t * breatheRate speed % 2 ^ counterBits
  let c := c0 / 2 ^ breatheCoarseShift + c0 / 2 ^ breatheFineShift
  if c < breatheRest then
    let folded := if breatheFold < c then breatheFold - (c - breatheFold) else c
    breatheFloor + (sin16 folded / breatheDivisor).toNat
  else breatheFloor

/-- Effect 3, Breathe (R167). -/
def fxBreathe (t : Nat) (s : State) : Frame :=
  frame (paintCrossfade (breatheLum t s.speed.toNat) s)

/-- Fade's luminance (R168). -/
def fadeLum (t speed : Nat) : Nat :=
  triangleWave16 (t * breatheRate speed % 2 ^ counterBits) / 2 ^ fadeShift

/-- Effect 4, Fade (R168). -/
def fxFade (t : Nat) (s : State) : Frame :=
  frame (paintCrossfade (fadeLum t s.speed.toNat) s)

/-- Progress through a cycle on a scale of 0 to 65534 (R169, R182). -/
def progress (cyc t : Nat) : Nat := t % cyc * progressScale / cyc

/-- Scan's window size (R169). -/
def scanSize (intensity len : Nat) : Nat := 1 + intensity * len / 2 ^ scanSizeShift

/-- Where Scan's window starts: the reflect transform, `abs` on the exact integer (R169). -/
def scanOffset (prog size len : Nat) : Nat :=
  let led := prog * (scanTravel * len - scanTravel * size) / 2 ^ scanShift
  ((led : Int) - ((len : Int) - (size : Int))).natAbs

/-- `ScanCommon(t, dual)`: a segment of at most one pixel runs Static; the mirrored window is written
first (R169, R170). -/
def scanCommon (dual : Bool) (t : Nat) (s : State) : Frame :=
  if s.len ≤ 1 then fxStatic t s
  else
    let size := scanSize s.intensity.toNat s.len
    let off := scanOffset (progress (scanCycle s.speed.toNat) t) size s.len
    let bg := fill s.color1 s
    let mirrored :=
      if dual then
        forUpTo size (fun n u =>
          segSet ((s.len : Int) - 1 - ((off + n : Nat) : Int))
            (segPal ((s.len : Int) - 1 - ((off + n : Nat) : Int)) true 255 s) u) bg
      else bg
    frame (forUpTo size (fun n u => segSet ((off + n : Nat) : Int) (segPalI (off + n) s) u) mirrored)

/-- Effect 5, Scan (R169). -/
def fxScan (t : Nat) (s : State) : Frame := scanCommon false t s

/-- Effect 6, Dual-Scan (R170). -/
def fxDualScan (t : Nat) (s : State) : Frame := scanCommon true t s

/-- The hue counter of Rainbow and Rainbow-Cycle, 0 to 255 (R171, R172). -/
def rainbowCounter (t speed : Nat) : Nat :=
  t * rainbowRate speed % 2 ^ counterBits / 2 ^ rainbowShift

/-- Effect 7, Rainbow (R171). -/
def fxRainbow (t : Nat) (s : State) : Frame :=
  let wheel := hueWheel (rainbowCounter t s.speed.toNat)
  frame
    (if s.intensity.toNat < desaturateBelow then
      fill (blend wheel white (desaturateBelow - s.intensity.toNat)) s
    else fill wheel s)

/-- The wheel position of pixel `i` in Rainbow-Cycle: `k = 16 << (INTENSITY / 29)` (R172). -/
def rainbowCycleIndex (c intensity len i : Nat) : Nat :=
  (i * (rainbowCycleFactor * 2 ^ (intensity / rainbowCycleDivisor)) / len + c) % 2 ^ wheelBits

/-- Effect 8, Rainbow-Cycle (R172). -/
def fxRainbowCycle (t : Nat) (s : State) : Frame :=
  frame
    (paint (fun i =>
      hueWheel (rainbowCycleIndex (rainbowCounter t s.speed.toNat) s.intensity.toNat s.len i)) s)

end Sys2Proof.Machine
end

