-- ==== Sys2Proof/Machine/EffectsB.lean ====
section
/-! DEFINITION. Effects 9 to 15: Theater Chase to Sparkle (spec/46_effects_b.md). -/

namespace Sys2Proof.Machine

/-- Theater Chase's spacing `N` (R180). -/
def theaterWidth (intensity : Nat) : Nat := theaterMinWidth + intensity / theaterDivisor

/-- Effect 9, Theater Chase: the pixels use the offset after its update (R180). -/
def fxTheater (t : Nat) (s : State) : Frame :=
  let n := theaterWidth s.intensity.toNat
  let it := t / theaterCycle s.speed.toNat
  let u :=
    if boundary it s then
      (s.setAux0 (natWord ((s.aux0.toNat + 1) % n))).setStep (natWord it)
    else s
  frame (paint (fun i => if i % n = u.aux0.toNat then segPalI i s else s.color1) u)

/-- Running Lights' time counter, wrapped at 32 bits before the shift (R181). -/
def runningCounter (t speed : Nat) : Nat :=
  t * speed % 2 ^ runningCounterBits / 2 ^ runningTimeShift

/-- The 8-bit phase of pixel `i` in Running Lights; the difference may be negative (R181). -/
def runningPhase (i intensity c : Nat) : Nat :=
  mask8 ((i : Int) * ((intensity / 2 ^ runningShift : Nat) : Int) - (c : Int))

/-- Effect 10, Running Lights (R181). -/
def fxRunning (t : Nat) (s : State) : Frame :=
  let c := runningCounter t s.speed.toNat
  frame
    (paint (fun i =>
      blend s.color1 (segPalI i s) (sin8 (runningPhase i s.intensity.toNat c))) s)

/-- The colour Color Wipe leaves on a pixel: `i` counts in the direction of the phase, `led` is the
boundary pixel, `rem` its weight (R182). -/
def wipeColor (back : Bool) (led rem i : Nat) (col0 col1 : Color) : Color :=
  let under := if back then col0 else col1
  let spread := if back then col1 else col0
  if i < led then spread else if i = led then blend under spread rem else under

/-- Effect 11, Color Wipe (R182). -/
def fxWipe (t : Nat) (s : State) : Frame :=
  if s.len ≤ 1 then fxStatic t s
  else
    let prog0 := progress (wipeCycle s.speed.toNat) t
    let back := decide (wipeMiddle < prog0)
    let prog := if back then prog0 - wipeMiddle else prog0
    let led := prog * s.len / 2 ^ wipeShift
    let rem0 :=
      prog * s.len * wipeRemFactor % 2 ^ wipeRemBits / (s.intensity.toNat + wipeSoftness)
    let rem := if wipeRemCap < rem0 then wipeRemCap else rem0
    frame
      (forUpTo s.len (fun i u =>
        let idx := if wipeReverseBack && back then s.len - 1 - i else i
        segSet (idx : Int) (wipeColor back led rem i (segPalI idx s) s.color1) u) s)

/-- Random Color's weight of the target colour; a fade duration of 0 shows the target at once
(R183). -/
def randomColorWeight (cyc intensity rem : Nat) : Nat :=
  let fd := cyc * intensity / 2 ^ randomColorShift
  if fd = 0 then randomColorWeightMax
  else min randomColorWeightMax (rem * randomColorWeightMax / fd)

/-- Effect 12, Random Color: one draw per detected boundary (R183). -/
def fxRandomColor (t : Nat) (s : State) : Frame :=
  let cyc := randomColorCycle s.speed.toNat
  let it := t / cyc
  let f := randomColorWeight cyc s.intensity.toNat (t % cyc)
  let u :=
    if boundary it s then
      (((afterDraw s).setAux1 s.aux0).setAux0 (natWord (rand wheelPositions s))).setStep (natWord it)
    else s
  frame
    (fill (blend (hueWheel (u.aux1.toNat % 2 ^ wheelBits)) (hueWheel (u.aux0.toNat % 2 ^ wheelBits)) f)
      u)

/-- Dynamic's (re)allocation: `n` zero bytes (R184). -/
def allocate (n : Nat) (s : State) : State :=
  forUpTo n (fun i u => dataWrite i 0 u) (s.setDataLen (BitVec.ofNat 16 n))

/-- Dynamic's draws for one pixel: a second one only if the first succeeds (R184). -/
def dynamicPixel (i : Nat) (s : State) : State :=
  let u := afterDraw s
  if rand dynamicChance s < s.intensity.toNat then
    dataWrite i (BitVec.ofNat 8 (rand wheelPositions u)) (afterDraw u)
  else u

/-- Effect 13, Dynamic (R184). -/
def fxDynamic (t : Nat) (s : State) : Frame :=
  if s.cfg.dataCap < s.len then fxStatic t s
  else
    let u := if s.dataLen.toNat ≠ s.len then allocate s.len s else s
    let it := t / dynamicCycle s.speed.toNat
    let v :=
      if boundary it s ∧ s.speed ≠ 0 then (forUpTo s.len dynamicPixel u).setStep (natWord it)
      else u
    frame (paint (fun i => hueWheel (dataRead i v).toNat) v)

/-- One step of Twinkle's generator on 16 bits (R185). -/
def lcg (p : Nat) : Nat := (p * lcgMul + lcgAdd) % lcgMod

/-- Twinkle's cap of active sparks, 1 to `L` (R185). -/
def twinkleCap (intensity len : Nat) : Nat := 1 + intensity * (len - 1) / twinkleCapDivisor

/-- Twinkle's once-per-cycle action: reseed at the cap, then one more active spark (R185). -/
def twinkleAdvance (it : Nat) (s : State) : State :=
  let u :=
    if twinkleCap s.intensity.toNat s.len ≤ s.aux0.toNat then
      (s.setAux0 0).setAux1 (natWord (lcg (s.aux1.toNat % lcgMod)))
    else s
  (u.setAux0 (natWord (u.aux0.toNat + 1))).setStep (natWord it)

/-- Light `n` sparks, the generator running on from `p` (R185). -/
def replay : Nat → Nat → State → State
  | 0, _, s => s
  | n + 1, p, s =>
    let j := s.len * lcg p / 2 ^ twinkleShift
    replay n (lcg p) (segSet (j : Int) (segPalI j s) s)

/-- Effect 14, Twinkle: no draw is taken (R185). -/
def fxTwinkle (t : Nat) (s : State) : Frame :=
  let faded := fadeOut twinkleFade s
  let it := t / twinkleCycle s.speed.toNat
  let u := if boundary it s then twinkleAdvance it faded else faded
  frame (replay u.aux0.toNat (u.aux1.toNat % lcgMod) u)

/-- Effect 15, Sparkle: one draw per detected boundary (R186). -/
def fxSparkle (t : Nat) (s : State) : Frame :=
  let grad := paintPalette s
  let it := t / sparkleCycle s.speed.toNat
  let u :=
    if boundary it s then
      ((afterDraw grad).setAux0 (natWord (rand s.len s))).setStep (natWord it)
    else grad
  frame (segSet (u.aux0.toNat : Int) s.color0 u)

end Sys2Proof.Machine
end

