-- ==== Sys2Proof/Machine/Effects.lean ====
section
/-! DEFINITION. The EFFECT command, the registry, and the meanings of the sixteen FX rows and of the
general EFFECT row (spec/45_effects_a.md R160, R161, spec/30_encoding.md R76, R80). -/

namespace Sys2Proof.Machine

/-- The registry; an unknown id is Static (R160, R161). -/
def runEffect (id t : Nat) (s : State) : Frame :=
  match id with
  | 0 => fxStatic t s
  | 1 => fxBlink t s
  | 2 => fxStrobe t s
  | 3 => fxBreathe t s
  | 4 => fxFade t s
  | 5 => fxScan t s
  | 6 => fxDualScan t s
  | 7 => fxRainbow t s
  | 8 => fxRainbowCycle t s
  | 9 => fxTheater t s
  | 10 => fxRunning t s
  | 11 => fxWipe t s
  | 12 => fxRandomColor t s
  | 13 => fxDynamic t s
  | 14 => fxTwinkle t s
  | 15 => fxSparkle t s
  | _ => fxStatic t s

/-- The end of an EFFECT command: `R <- delay`, `CALL <- CALL + 1` (R160). -/
def finishFrame (f : Frame) : State :=
  (f.state.setR (natWord f.delay)).setCall (f.state.call + 1)

/-- EFFECT with id `id`: one clock sample; an empty segment runs Static (R160). -/
def effectCommand (id : Nat) (s : State) : State :=
  finishFrame (runEffect (if s.len = 0 then 0 else id) (now s).toNat s)

/-- FX.STATIC, `EFFECT 0` (R80, R164). -/
def execFxStatic (s : State) : Host.Outcome State Fault Refusal :=
  .next (effectCommand 0 s)

/-- FX.BLINK, `EFFECT 1` (R80, R165). -/
def execFxBlink (s : State) : Host.Outcome State Fault Refusal :=
  .next (effectCommand 1 s)

/-- FX.STROBE, `EFFECT 2` (R80, R166). -/
def execFxStrobe (s : State) : Host.Outcome State Fault Refusal :=
  .next (effectCommand 2 s)

/-- FX.BREATHE, `EFFECT 3` (R80, R167). -/
def execFxBreathe (s : State) : Host.Outcome State Fault Refusal :=
  .next (effectCommand 3 s)

/-- FX.FADE, `EFFECT 4` (R80, R168). -/
def execFxFade (s : State) : Host.Outcome State Fault Refusal :=
  .next (effectCommand 4 s)

/-- FX.SCAN, `EFFECT 5` (R80, R169). -/
def execFxScan (s : State) : Host.Outcome State Fault Refusal :=
  .next (effectCommand 5 s)

/-- FX.DUALSCAN, `EFFECT 6` (R80, R170). -/
def execFxDualScan (s : State) : Host.Outcome State Fault Refusal :=
  .next (effectCommand 6 s)

/-- FX.RAINBOW, `EFFECT 7` (R80, R171). -/
def execFxRainbow (s : State) : Host.Outcome State Fault Refusal :=
  .next (effectCommand 7 s)

/-- FX.RAINBOWCYCLE, `EFFECT 8` (R80, R172). -/
def execFxRainbowCycle (s : State) : Host.Outcome State Fault Refusal :=
  .next (effectCommand 8 s)

/-- FX.THEATER, `EFFECT 9` (R80, R180). -/
def execFxTheater (s : State) : Host.Outcome State Fault Refusal :=
  .next (effectCommand 9 s)

/-- FX.RUNNING, `EFFECT 10` (R80, R181). -/
def execFxRunning (s : State) : Host.Outcome State Fault Refusal :=
  .next (effectCommand 10 s)

/-- FX.WIPE, `EFFECT 11` (R80, R182). -/
def execFxWipe (s : State) : Host.Outcome State Fault Refusal :=
  .next (effectCommand 11 s)

/-- FX.RANDOMCOLOR, `EFFECT 12` (R80, R183). -/
def execFxRandomColor (s : State) : Host.Outcome State Fault Refusal :=
  .next (effectCommand 12 s)

/-- FX.DYNAMIC, `EFFECT 13` (R80, R184). -/
def execFxDynamic (s : State) : Host.Outcome State Fault Refusal :=
  .next (effectCommand 13 s)

/-- FX.TWINKLE, `EFFECT 14` (R80, R185). -/
def execFxTwinkle (s : State) : Host.Outcome State Fault Refusal :=
  .next (effectCommand 14 s)

/-- FX.SPARKLE, `EFFECT 15` (R80, R186). -/
def execFxSparkle (s : State) : Host.Outcome State Fault Refusal :=
  .next (effectCommand 15 s)

/-- EFFECT for the ids that no FX row names (R76, R160). -/
def execEffect (id : Byte) (s : State) : Host.Outcome State Fault Refusal :=
  .next (effectCommand (zext8 id) s)

end Sys2Proof.Machine
end

