-- ==== Sys2Proof/Machine/Dispatch.lean ====
section
/-! DEFINITION. What each command does, one arm per row of spec/opcode_table.json. -/

namespace Sys2Proof.Machine

def exec (i : Instr) (s : State) : Host.Outcome State Fault Refusal :=
  match i with
  | .blend amount => Sys2Proof.Machine.execBlend amount s
  | .add => Sys2Proof.Machine.execAdd s
  | .addP => Sys2Proof.Machine.execAddP s
  | .fade amount => Sys2Proof.Machine.execFade amount s
  | .fadeV amount => Sys2Proof.Machine.execFadeV amount s
  | .wheel pos => Sys2Proof.Machine.execWheel pos s
  | .hsv2rgb => Sys2Proof.Machine.execHsv2rgb s
  | .rgb2hsv => Sys2Proof.Machine.execRgb2hsv s
  | .sin8 x => Sys2Proof.Machine.execSin8 x s
  | .sin16 x => Sys2Proof.Machine.execSin16 x s
  | .tri16 x => Sys2Proof.Machine.execTri16 x s
  | .palcolor pid pos bri => Sys2Proof.Machine.execPalcolor pid pos bri s
  | .getpix ix => Sys2Proof.Machine.execGetpix ix s
  | .setpix ix => Sys2Proof.Machine.execSetpix ix s
  | .fill => Sys2Proof.Machine.execFill s
  | .fadeout amount => Sys2Proof.Machine.execFadeout amount s
  | .blur amount => Sys2Proof.Machine.execBlur amount s
  | .now => Sys2Proof.Machine.execNow s
  | .segpal ix bri => Sys2Proof.Machine.execSegpal ix bri s
  | .segpalI ix bri => Sys2Proof.Machine.execSegpalI ix bri s
  | .getcolor ix => Sys2Proof.Machine.execGetcolor ix s
  | .reset => Sys2Proof.Machine.execReset s
  | .fxStatic => Sys2Proof.Machine.execFxStatic s
  | .fxBlink => Sys2Proof.Machine.execFxBlink s
  | .fxStrobe => Sys2Proof.Machine.execFxStrobe s
  | .fxBreathe => Sys2Proof.Machine.execFxBreathe s
  | .fxFade => Sys2Proof.Machine.execFxFade s
  | .fxScan => Sys2Proof.Machine.execFxScan s
  | .fxDualScan => Sys2Proof.Machine.execFxDualScan s
  | .fxRainbow => Sys2Proof.Machine.execFxRainbow s
  | .fxRainbowCycle => Sys2Proof.Machine.execFxRainbowCycle s
  | .fxTheater => Sys2Proof.Machine.execFxTheater s
  | .fxRunning => Sys2Proof.Machine.execFxRunning s
  | .fxWipe => Sys2Proof.Machine.execFxWipe s
  | .fxRandomColor => Sys2Proof.Machine.execFxRandomColor s
  | .fxDynamic => Sys2Proof.Machine.execFxDynamic s
  | .fxTwinkle => Sys2Proof.Machine.execFxTwinkle s
  | .fxSparkle => Sys2Proof.Machine.execFxSparkle s
  | .effect id => Sys2Proof.Machine.execEffect id s

end Sys2Proof.Machine
end

