-- ==== Sys2Proof/Machine/HostPort.lean ====
section
/-! DEFINITION. The host port: the REG map, the PIX and DATA windows, reserved addresses, and the other
events at the engine's ports (spec/20_memory.md R50 to R56, spec/60_exceptions.md R209).  `Step.lean`
only calls this file. -/

namespace Sys2Proof.Machine

/-- The address of CMD (R52). -/
def cmdAddr : Half := 0

/-- The PIX element a host address names, if any: `0x8000 + k` for `k < NUM_LEDS` (R53). -/
def pixWindow (addr : Half) (c : Config) : Option Nat :=
  if 0x8000 ≤ addr.toNat ∧ addr.toNat - 0x8000 < c.numLeds then some (addr.toNat - 0x8000) else none

/-- The DATA byte a host address names, if any: `0x4000 + k` for `k < DATA_CAP`, below the PIX window
(R54). -/
def dataWindow (addr : Half) (c : Config) : Option Nat :=
  if 0x4000 ≤ addr.toNat ∧ addr.toNat < 0x8000 ∧ addr.toNat - 0x4000 < c.dataCap then
    some (addr.toNat - 0x4000)
  else none

/-- `WR` to a register of the REG map other than CMD: the low bits that fit are stored; a read-only or
unmapped address ignores the write (R52, R55, R56). -/
def regWrite (addr : Half) (d : Word) (s : State) : State :=
  match addr.toNat with
  | 0x0001 => statusWrite d s
  | 0x0002 => s.setA d
  | 0x0003 => s.setB d
  | 0x0010 => s.setSegStart (d.setWidth 16)
  | 0x0011 => s.setSegEnd (d.setWidth 16)
  | 0x0012 => s.setColor0 d
  | 0x0013 => s.setColor1 d
  | 0x0014 => s.setColor2 d
  | 0x0015 => s.setSpeed (d.setWidth 8)
  | 0x0016 => s.setIntensity (d.setWidth 8)
  | 0x0017 => s.setCustom1 (d.setWidth 8)
  | 0x0018 => s.setCustom2 (d.setWidth 8)
  | 0x0019 => s.setCustom3 (d.setWidth 8)
  | 0x001A => s.setPaletteId (d.setWidth 8)
  | 0x0020 => s.setCall d
  | 0x0021 => s.setStep d
  | 0x0022 => s.setAux0 d
  | 0x0023 => s.setAux1 d
  | _ => s

/-- `RD` of a register of the REG map, zero-extended; CMD and an unmapped address read 0 (R52, R55,
R56). -/
def regRead (addr : Half) (s : State) : Word :=
  match addr.toNat with
  | 0x0001 => statusWord s
  | 0x0002 => s.a
  | 0x0003 => s.b
  | 0x0004 => s.r
  | 0x0010 => s.segStart.setWidth 32
  | 0x0011 => s.segEnd.setWidth 32
  | 0x0012 => s.color0
  | 0x0013 => s.color1
  | 0x0014 => s.color2
  | 0x0015 => s.speed.setWidth 32
  | 0x0016 => s.intensity.setWidth 32
  | 0x0017 => s.custom1.setWidth 32
  | 0x0018 => s.custom2.setWidth 32
  | 0x0019 => s.custom3.setWidth 32
  | 0x001A => s.paletteId.setWidth 32
  | 0x0020 => s.call
  | 0x0021 => s.step
  | 0x0022 => s.aux0
  | 0x0023 => s.aux1
  | 0x0024 => s.dataLen.setWidth 32
  | _ => 0

/-- `WR(addr, d)` for an address other than CMD (R51 to R56). -/
def hostWrite (addr : Half) (d : Word) (s : State) : State :=
  match pixWindow addr s.cfg with
  | some k => pixWrite k d s
  | none =>
    match dataWindow addr s.cfg with
    | some k => dataWrite k (d.setWidth 8) s
    | none => regWrite addr d s

/-- What `RD(addr)` returns (R51 to R56). -/
def readWord (addr : Half) (s : State) : Word :=
  match pixWindow addr s.cfg with
  | some k => pixRead k s
  | none =>
    match dataWindow addr s.cfg with
    | some k => (dataRead k s).setWidth 32
    | none => regRead addr s

/-- `RD(addr)`: the word goes to the host; nothing else changes (R51, R59; assumption 8). -/
def hostRead (addr : Half) (s : State) : State :=
  s.setEnv { s.env with rdata := readWord addr s }

/-- Another engine writes an element of the shared PIX (R209, U1; assumption 11). -/
def foreignWrite (k : Nat) (c : Color) (s : State) : State :=
  if k < s.cfg.numLeds then pixWrite k c s else s

/-- An event that is not a command (R51, R209, R220). -/
def perform (e : Event) (s : State) : State :=
  match e with
  | .wr addr d => hostWrite addr d s
  | .rd addr => hostRead addr s
  | .foreign k c => foreignWrite k c s
  | .hardReset => hardReset s

/-- The next event at the ports, if any (R21: the order of commands is state of the host). -/
def pending (s : State) : Option Event := s.env.host.head?

/-- The event is taken off the list of those to come. -/
def dropEvent (s : State) : State := s.setEnv { s.env with host := s.env.host.tail }

/-- Time passes until the next event happens, and it is taken (R51, R207). -/
def accept (s : State) : State := dropEvent (letTimePass s)

/-- The command word an event issues: `WR(CMD, w)` issues `w`, nothing else does (R51, R70). -/
def commandOf : Event → Option Word
  | .wr addr w => if addr = cmdAddr then some w else none
  | .rd _ => none
  | .foreign _ _ => none
  | .hardReset => none

/-- The host will issue the command word `w` next. -/
def issueNext (w : Word) (s : State) : State :=
  s.setEnv { s.env with host := .wr cmdAddr w :: s.env.host }

end Sys2Proof.Machine
end

