-- ==== Sys2Proof/Machine/Step.lean ====
section
/-! DEFINITION. One step: time passes and the next event at the engine's ports happens, whole
(spec/30_encoding.md R78, spec/20_memory.md R51, R61).  Everything it does is a call of a definition in
another file. -/

namespace Sys2Proof.Machine

/-- Run the command word `w`: its command to completion, or the illegal-command effect (R74, R78). -/
def runWord (w : Word) (s : State) : Host.Outcome State Fault Refusal :=
  match decode w with
  | .ok i => exec i s
  | .error _ => .next (illegalCommand s)

/-- One step of the machine. With no event to come the engine idles and only time passes (R6, R220;
assumption 13). -/
def step (s : State) : Host.Outcome State Fault Refusal :=
  match pending s with
  | none => .next (letTimePass s)
  | some e =>
    match commandOf e with
    | some w => runWord w (accept s)
    | none => .next (perform e (accept s))

/-- The state in which the next event is the command whose bits are `w`: the host issues it by writing
it to CMD (R70; assumption 1). -/
def State.withFetchWord (s : State) (nbits w : Nat) : State :=
  issueNext (BitVec.ofNat 32 (w % 2 ^ nbits)) s

end Sys2Proof.Machine
end

