-- ==== Sys2Proof/Safety.lean ====
section
/-! DEFINITION. What counts as a good state and as a safe run, in the terms the statements use. -/

namespace Sys2Proof.Machine

/-- A good state: the platform's parameters are within the bounds of R5 and well-formed (R130), both
memories are in their canonical form, `DATA_LEN <= DATA_CAP` (R32), and the clock has not run back
behind its origin (R207). -/
def State.inv (s : State) : Bool :=
  s.cfg.wf && Memory.wf s.cfg.numLeds pixUnlisted s.pix &&
    Memory.wf s.cfg.dataCap dataUnlisted s.data && s.dataLen.toNat ≤ s.cfg.dataCap &&
    s.t0 ≤ s.env.clk

/-- Every number of steps from `s` ends in a next state: nothing traps and every command completes
(R78, R200). -/
def State.runsForEver (s : State) : Prop :=
  ∀ n : Nat, ∃ t : State, Sys2Proof.core.run n s = .next t

end Sys2Proof.Machine
end

