-- ==== Sys2Proof/Certificates/Slice0/Obligations.lean ====
section
/-! DEFINITION. The statements for the provers, and the words they are said in (namespace `Claims`).
Arithmetic is written out as the rules write it (`>>>`, `&&&`, floor division), not through the
helpers of the model, so that a wrong helper makes a statement false. -/

namespace Sys2Proof.Claims

open Sys2Proof.Machine

/-- PIX element `k` is one the segment addresses (R60). -/
abbrev inSegment (s : State) (k : Nat) : Prop :=
  s.segStart.toNat ≤ k ∧ k < s.segEnd.toNat ∧ k < s.cfg.numLeds

/-- The state in which an event is acted on: time has passed, and `rest` is still to come. The model's
own fields alone differ from `s` (assumptions 1, 2, 10). -/
def afterEvent (s : State) (rest : List Event) : State :=
  s.setEnv
    { s.env with
      host := rest
      clk := s.env.clk + nextGap s
      gaps := s.env.gaps.tail
      gapCount := s.env.gapCount + 1 }

/-- What a read of the word `v` leaves of the model's own fields: the event is taken, time has passed,
and the host has `v` (assumption 8). -/
def envAfterRead (s : State) (rest : List Event) (v : Word) : Env :=
  { (afterEvent s rest).env with rdata := v }

/-- Between `s` and `t` no random draw was taken. -/
def drewNothing (s t : State) : Prop :=
  t.env.draws = s.env.draws ∧ t.env.drawCount = s.env.drawCount

/-- `t` is `s` after a frame: PIX may differ, `R` holds the delay, `CALL` is one more, and nothing
else differs. -/
def frameOf (s t : State) (delay : Nat) : Prop :=
  t = ((s.setPix t.pix).setR (BitVec.ofNat 32 delay)).setCall (s.call + 1)

/-- Each pixel of the segment has the colour `f` gives its segment-relative index, and every other
element of PIX is as before. -/
def paints (s t : State) (f : Nat → Color) : Prop :=
  ∀ k, pixRead k t = if inSegment s k then f (k - s.segStart.toNat) else pixRead k s

/-- The raw answer of the random source to draw number `j` from now; `Rand(n)` is it modulo `n`. The
model's way to hold this input (assumption 3). -/
def rawDraw (s : State) (j : Nat) : Nat :=
  (s.env.draws[j]?).getD (Config.freeDraw (s.env.drawCount + j))

/-- The state after `n` draws (assumption 3). -/
def drawn (s : State) (n : Nat) : State :=
  s.setEnv { s.env with draws := s.env.draws.drop n, drawCount := s.env.drawCount + n }

/-- The effect id that an EFFECT command carries (R80, R161). -/
def effectNumber : Instr → Option Nat
  | .fxStatic => some 0
  | .fxBlink => some 1
  | .fxStrobe => some 2
  | .fxBreathe => some 3
  | .fxFade => some 4
  | .fxScan => some 5
  | .fxDualScan => some 6
  | .fxRainbow => some 7
  | .fxRainbowCycle => some 8
  | .fxTheater => some 9
  | .fxRunning => some 10
  | .fxWipe => some 11
  | .fxRandomColor => some 12
  | .fxDynamic => some 13
  | .fxTwinkle => some 14
  | .fxSparkle => some 15
  | .effect id => some id.toNat
  | .blend _ | .add | .addP | .fade _ | .fadeV _ | .wheel _ | .hsv2rgb | .rgb2hsv | .sin8 _
  | .sin16 _ | .tri16 _ | .palcolor _ _ _ | .getpix _ | .setpix _ | .fill | .fadeout _ | .blur _
  | .now | .segpal _ _ | .segpalI _ _ | .getcolor _ | .reset => none

/-- A row of the REG map for a readable and writable register: its address and width, what it holds,
and the state with the data cut to its width put into it and nothing else changed. -/
structure HostRegister where
  addr : Nat
  width : Nat
  value : State → Nat
  written : Word → State → State

/-- The readable and writable rows of the table of R52, each with the field of State that its name
stands for (R20, R23 to R31). -/
def hostRegisters : List HostRegister :=
  [⟨0x02, 32, fun s => s.a.toNat, fun d s => { s with a := d }⟩,
    ⟨0x03, 32, fun s => s.b.toNat, fun d s => { s with b := d }⟩,
    ⟨0x10, 16, fun s => s.segStart.toNat, fun d s => { s with segStart := d.setWidth 16 }⟩,
    ⟨0x11, 16, fun s => s.segEnd.toNat, fun d s => { s with segEnd := d.setWidth 16 }⟩,
    ⟨0x12, 32, fun s => s.color0.toNat, fun d s => { s with color0 := d }⟩,
    ⟨0x13, 32, fun s => s.color1.toNat, fun d s => { s with color1 := d }⟩,
    ⟨0x14, 32, fun s => s.color2.toNat, fun d s => { s with color2 := d }⟩,
    ⟨0x15, 8, fun s => s.speed.toNat, fun d s => { s with speed := d.setWidth 8 }⟩,
    ⟨0x16, 8, fun s => s.intensity.toNat, fun d s => { s with intensity := d.setWidth 8 }⟩,
    ⟨0x17, 8, fun s => s.custom1.toNat, fun d s => { s with custom1 := d.setWidth 8 }⟩,
    ⟨0x18, 8, fun s => s.custom2.toNat, fun d s => { s with custom2 := d.setWidth 8 }⟩,
    ⟨0x19, 8, fun s => s.custom3.toNat, fun d s => { s with custom3 := d.setWidth 8 }⟩,
    ⟨0x1A, 8, fun s => s.paletteId.toNat, fun d s => { s with paletteId := d.setWidth 8 }⟩,
    ⟨0x20, 32, fun s => s.call.toNat, fun d s => { s with call := d }⟩,
    ⟨0x21, 32, fun s => s.step.toNat, fun d s => { s with step := d }⟩,
    ⟨0x22, 32, fun s => s.aux0.toNat, fun d s => { s with aux0 := d }⟩,
    ⟨0x23, 32, fun s => s.aux1.toNat, fun d s => { s with aux1 := d }⟩]

/-- The reserved host addresses of R55 on a platform with parameters `c`. -/
def reserved (c : Config) (addr : Nat) : Prop :=
  (0x0005 ≤ addr ∧ addr ≤ 0x000F) ∨ (0x001B ≤ addr ∧ addr ≤ 0x001F) ∨
    (0x0025 ≤ addr ∧ addr ≤ 0x3FFF) ∨ (0x4000 + c.dataCap ≤ addr ∧ addr ≤ 0x7FFF) ∨
    (0x8000 + c.numLeds ≤ addr ∧ addr ≤ 0xFFFF)

/-- One step of Twinkle's generator (R185). -/
def generator (p : Nat) : Nat := (p * 2053 + 13849) &&& 0xFFFF

/-- The window `[off, off + size)` of Scan holds index `i` (R169). -/
abbrev inWindow (off size i : Nat) : Prop := off ≤ i ∧ i < off + size

/-- Scan's window size and offset at time `t` (R169). -/
def scanWindow (t speed intensity len : Nat) : Nat × Nat :=
  let cyc := 750 + (255 - speed) * 150
  let prog := (t % cyc * 65535) / cyc
  let size := 1 + ((intensity * len) >>> 9)
  let led := (prog * (2 * len - 2 * size)) >>> 16
  (size, ((led : Int) - ((len : Int) - (size : Int))).natAbs)

end Sys2Proof.Claims

open Sys2Proof Sys2Proof.Machine Sys2Proof.Claims

/-! ### The command word -/

/-- Decoding an encoded well-formed command gives it back, with every operand at every value. -/
def Obligations.DecodeOfEncodeIsTheCommand : Prop :=
  ∀ i : Instr, i.wf = true → decode (encode i) = .ok i

/-- Every legal word is the encoding of the one well-formed command it decodes to. -/
def Obligations.EncodeOfDecodeIsTheWord : Prop :=
  ∀ (w : Word) (i : Instr), decode w = .ok i → i.wf = true ∧ encode i = w

/-- A word decodes iff it matches a row of the table of R73, bit by bit, and the matching row is
unique. -/
def Obligations.LegalWordsMatchOneTableRow : Prop :=
  ∀ w : Word,
    ((∃ i, decode w = .ok i) ↔ ∃ row ∈ commandRows, w &&& row.mask = row.pattern) ∧
      ∀ row ∈ commandRows, ∀ row' ∈ commandRows,
        w &&& row.mask = row.pattern → w &&& row'.mask = row'.pattern → row = row'

/-- Words written out from the spec's encodings and examples decode to what they stand for. -/
def Obligations.SampleWordsDecode : Prop :=
  decode 0x04800000 = .ok (.blend 128) ∧ decode 0x09000000 = .ok .addP ∧
    decode 0x0D800000 = .ok (.fadeV 128) ∧ decode 0x202A0000 = .ok (.wheel 42) ∧
    decode 0x4400012C = .ok (.sin16 300) ∧ decode 0x60800040 = .ok (.palcolor 0 64 128) ∧
    decode 0x8000FFFF = .ok (.getpix 0xFFFF) ∧ decode 0x99800003 = .ok (.segpalI 3 128) ∧
    decode 0xA0000000 = .ok .reset ∧ decode 0xC00F0000 = .ok .fxSparkle ∧
    decode 0xC0C80000 = .ok (.effect 200) ∧ decode 0x88000001 = .error .unusedFieldNotZero ∧
    decode 0xFC000000 = .error .unknownOpcode ∧ decode 0 = .error .unknownOpcode

/-! ### The step and the host port -/

/-- When the next event is a write of a legal command word to CMD, the step is `exec` of the decoded
command, in the state in which time has passed and the event is taken. -/
def Obligations.StepRunsTheDecodedCommand : Prop :=
  ∀ (s : State) (w : Word) (rest : List Event) (i : Instr),
    s.env.host = .wr 0 w :: rest → decode w = .ok i → step s = exec i (afterEvent s rest)

/-- A command word that matches no row of R73 sets `STATUS.ILL` and changes nothing else. -/
def Obligations.IllegalWordSetsIllAlone : Prop :=
  ∀ (s : State) (w : Word) (rest : List Event),
    s.env.host = .wr 0 w :: rest → (∀ row ∈ commandRows, w &&& row.mask ≠ row.pattern) →
      ∃ t, step s = .next t ∧ t = (s.setIll true).setEnv t.env ∧ t.env.rdata = s.env.rdata ∧
        drewNothing s t

/-- `STATUS`: bit 0 reads `ILL`, the others 0; writing 1 to bit 0 clears it, writing 0 leaves it. A read
changes nothing (R59). -/
def Obligations.StatusReadsAndClearsIll : Prop :=
  ∀ (s : State) (d : Word) (rest : List Event),
    (s.env.host = .wr 1 d :: rest →
      step s = .next ((afterEvent s rest).setIll (if d.getLsbD 0 then false else s.ill))) ∧
    (s.env.host = .rd 1 :: rest →
      ∃ t, step s = .next t ∧ t = s.setEnv t.env ∧
        t.env = envAfterRead s rest (if s.ill then 1 else 0))

/-- `ILL` goes from 0 to 1 in no step but one that takes an illegal command word. -/
def Obligations.OnlyIllegalWordsRaiseIll : Prop :=
  ∀ s t : State, step s = .next t → s.ill = false → t.ill = true →
    ∃ w e, s.env.host.head? = some (.wr 0 w) ∧ decode w = .error e

/-- Each readable and writable register of the REG map is the field of State that its row names: a
write puts the data, cut to the register's width, there and nowhere else; a read returns that field
zero-extended and changes nothing (R59); a read after a write gives the data cut to the width, and no
other address reads differently after the write. -/
def Obligations.HostRegisterReadsBackCutToItsWidth : Prop :=
  ∀ reg ∈ hostRegisters, ∀ (s : State) (d : Word) (rest : List Event),
    (s.env.host = .wr (BitVec.ofNat 16 reg.addr) d :: rest →
      step s = .next (reg.written d (afterEvent s rest))) ∧
    (s.env.host = .rd (BitVec.ofNat 16 reg.addr) :: rest →
      ∃ t, step s = .next t ∧ t = s.setEnv t.env ∧
        t.env = envAfterRead s rest (BitVec.ofNat 32 (reg.value s))) ∧
    (s.env.host =
        .wr (BitVec.ofNat 16 reg.addr) d :: .rd (BitVec.ofNat 16 reg.addr) :: rest →
      ∃ t u, step s = .next t ∧ step t = .next u ∧ u = t.setEnv u.env ∧
        u.env.rdata.toNat = d.toNat % 2 ^ reg.width ∧
        ∀ a : Half, a.toNat ≠ reg.addr → readWord a t = readWord a s)

/-- A reserved address ignores a write and reads as 0. -/
def Obligations.ReservedAddressesAreInert : Prop :=
  ∀ (s : State) (addr : Half) (d : Word) (rest : List Event),
    s.cfg.wf = true → reserved s.cfg addr.toNat →
      (s.env.host = .wr addr d :: rest →
        ∃ t, step s = .next t ∧ t = s.setEnv t.env ∧ t.env.rdata = s.env.rdata ∧ drewNothing s t) ∧
      (s.env.host = .rd addr :: rest →
        ∃ t, step s = .next t ∧ t = s.setEnv t.env ∧ t.env.rdata = 0 ∧ drewNothing s t)

/-- `R` and `DATA_LEN` ignore a write and read as they are; CMD reads as 0; the reads change nothing
(R59). -/
def Obligations.ReadOnlyRegistersIgnoreWrites : Prop :=
  ∀ (s : State) (addr : Half) (d : Word) (rest : List Event),
    ((addr = 0x0004 ∨ addr = 0x0024) → s.env.host = .wr addr d :: rest →
      step s = .next (afterEvent s rest)) ∧
    (s.env.host = .rd addr :: rest →
      ∃ t, step s = .next t ∧ t = s.setEnv t.env ∧
        (addr = 0x0004 → t.env = envAfterRead s rest s.r) ∧
        (addr = 0x0024 → t.env = envAfterRead s rest (BitVec.ofNat 32 s.dataLen.toNat)) ∧
        (addr = 0x0000 → t.env = envAfterRead s rest 0))

/-- The PIX window: a write replaces the one element the address names, a read returns it. -/
def Obligations.PixWindowReadsAndWritesOneElement : Prop :=
  ∀ (s : State) (k : Nat) (d : Word) (rest : List Event),
    s.cfg.wf = true → k < s.cfg.numLeds →
      (s.env.host = .wr (BitVec.ofNat 16 (0x8000 + k)) d :: rest →
        ∃ t, step s = .next t ∧ t = (afterEvent s rest).setPix t.pix ∧
          ∀ j, pixRead j t = if j = k then d else pixRead j s) ∧
      (s.env.host = .rd (BitVec.ofNat 16 (0x8000 + k)) :: rest →
        ∃ t, step s = .next t ∧ t = s.setEnv t.env ∧ t.env.rdata = pixRead k s)

/-- The DATA window: a write stores the low byte at the index the address names, a read returns the
byte zero-extended. -/
def Obligations.DataWindowReadsAndWritesOneByte : Prop :=
  ∀ (s : State) (k : Nat) (d : Word) (rest : List Event),
    s.inv = true → k < s.cfg.dataCap →
      (s.env.host = .wr (BitVec.ofNat 16 (0x4000 + k)) d :: rest →
        ∃ t, step s = .next t ∧ t = (afterEvent s rest).setData t.data ∧
          ∀ j, (dataRead j t).toNat = if j = k then d.toNat % 256 else (dataRead j s).toNat) ∧
      (s.env.host = .rd (BitVec.ofNat 16 (0x4000 + k)) :: rest →
        ∃ t, step s = .next t ∧ t = s.setEnv t.env ∧ t.env.rdata.toNat = (dataRead k s).toNat)

/-- The model's choice (assumptions 11 and 13): another engine's write changes one element of PIX, and
with nothing to come the engine idles while time passes. -/
def Obligations.ForeignWriteAndIdleStep : Prop :=
  ∀ (s : State) (k : Nat) (c : Color) (rest : List Event),
    (s.env.host = .foreign k c :: rest → k < s.cfg.numLeds →
      ∃ t, step s = .next t ∧ t = (afterEvent s rest).setPix t.pix ∧
        ∀ j, pixRead j t = if j = k then c else pixRead j s) ∧
    (s.env.host = [] → step s = .next (afterEvent s []))

/-! ### Reset, time, and the whole machine -/

/-- The table of R39: what hardware reset leaves (PIX is unspecified: nothing is said of it), and what the
RESET command does to the same state. -/
def Obligations.ResetStateHasTheTableOfResetValues : Prop :=
  State.reset.a = 0 ∧ State.reset.b = 0 ∧ State.reset.r = 0 ∧ State.reset.ill = false ∧
    State.reset.segStart = 0 ∧ State.reset.segEnd = 0 ∧ State.reset.color0 = 0x00FF0000 ∧
    State.reset.color1 = 0x000000FF ∧ State.reset.color2 = 0x0000FF00 ∧
    State.reset.speed = 128 ∧ State.reset.intensity = 128 ∧ State.reset.custom1 = 0 ∧
    State.reset.custom2 = 0 ∧ State.reset.custom3 = 0 ∧ State.reset.paletteId = 0 ∧
    State.reset.call = 0 ∧ State.reset.step = 0 ∧ State.reset.aux0 = 0 ∧ State.reset.aux1 = 0 ∧
    State.reset.dataLen = 0 ∧ (∀ k, dataRead k State.reset = 0) ∧ now State.reset = 0 ∧
    ∀ s : State, exec .reset s =
      .next { s with call := 0, step := 0, aux0 := 0, aux1 := 0, dataLen := 0 }

/-- Hardware reset while the platform runs (the model's event, assumption 12): the registers as after
reset, DATA zero, the time starting at 0 again, whatever the state was. -/
def Obligations.HardwareResetEventRestartsTheEngine : Prop :=
  ∀ (s : State) (rest : List Event), s.env.host = .hardReset :: rest →
    ∃ t, step s = .next t ∧ now t = 0 ∧ (∀ k, dataRead k t = 0) ∧ t.cfg = s.cfg ∧
      t.env = (afterEvent s rest).env ∧
      t = { State.reset with
            pix := t.pix, t0 := t.t0, boots := t.boots, cfg := t.cfg, env := t.env }

/-- The command word of RESET clears the five scratch registers and changes nothing else (R154). -/
def Obligations.ResetCommandClearsTheScratchState : Prop :=
  decode 0xA0000000 = .ok .reset ∧ encode .reset = 0xA0000000 ∧
    ∀ s : State, exec .reset s =
      .next { s with call := 0, step := 0, aux0 := 0, aux1 := 0, dataLen := 0 }

/-- The elapsed time does not run back between two steps without a hardware reset, as long as fewer
than 2^32 ms have passed since the last one. -/
def Obligations.ElapsedTimeIsMonotonic : Prop :=
  ∀ s t : State, step s = .next t → s.env.host.head? ≠ some .hardReset → s.t0 ≤ s.env.clk →
    t.env.clk - t.t0 < 2 ^ 32 → (now s).toNat ≤ (now t).toNat

/-- Every command completes, with a next state, in every state. -/
def Obligations.EveryCommandCompletes : Prop :=
  ∀ (i : Instr) (s : State), ∃ t, exec i s = .next t

/-- Nothing stops the machine: every run from every state goes on for any number of steps. -/
def Obligations.TheMachineRunsForEver : Prop := ∀ s : State, s.runsForEver

/-- A good state stays good over every step: both memories keep their canonical form and size,
`DATA_LEN <= DATA_CAP`, the parameters stay well-formed, the clock stays at or after its origin. -/
def Obligations.EveryStepKeepsTheInvariant : Prop :=
  ∀ s t : State, s.inv = true → step s = .next t → t.inv = true

/-- The state after reset is a good state. -/
def Obligations.InvariantHoldsAtReset : Prop := State.reset.inv = true

/-- No command changes `A`, `B`, the status flag, a segment control register, the clock origin, the
platform's parameters, the clock, or what the host has yet to issue: only `R`, the scratch registers,
DATA, PIX and the random source can differ. -/
def Obligations.CommandsLeaveTheHostsRegisters : Prop :=
  ∀ (i : Instr) (s t : State), exec i s = .next t →
    t = { s with
          r := t.r, call := t.call, step := t.step, aux0 := t.aux0, aux1 := t.aux1,
          dataLen := t.dataLen, data := t.data, pix := t.pix,
          env := { s.env with draws := t.env.draws, drawCount := t.env.drawCount } }

/-- No command changes an element of PIX outside `[START, END)`. -/
def Obligations.PixelsOutsideTheSegmentStay : Prop :=
  ∀ (i : Instr) (s t : State), exec i s = .next t →
    ∀ k, ¬inSegment s k → pixRead k t = pixRead k s

/-- Only Random Color, Dynamic and Sparkle take random draws. -/
def Obligations.OnlyThreeEffectsDraw : Prop :=
  ∀ (i : Instr) (s t : State), exec i s = .next t →
    effectNumber i ≠ some 12 → effectNumber i ≠ some 13 → effectNumber i ≠ some 15 →
      t.env = s.env

/-- The frame of every effect but Twinkle depends neither on what PIX held nor on CALL: "every other
effect overwrites every pixel of the segment each frame". -/
def Obligations.FramesIgnoreOldPixelsAndCall : Prop :=
  ∀ (i : Instr) (n : Nat), effectNumber i = some n → n ≠ 14 →
    ∀ (s t u : State) (m : List (Nat × Color)) (c : Word), exec i s = .next t →
      exec i ((s.setPix m).setCall c) = .next u →
        ∀ k, inSegment s k → pixRead k u = pixRead k t

/-! ### The colour mixer -/

/-- `blend`: per-channel linear interpolation with floor, exact at its ends (R100). -/
def Obligations.BlendInterpolatesEachChannel : Prop :=
  ∀ (c1 c2 : Color) (amount : Nat), amount ≤ 255 →
    (∀ k, chan k (blend c1 c2 amount) =
      (chan k c1 * (255 - amount) + chan k c2 * amount) / 255) ∧
    blend c1 c2 0 = c1 ∧ blend c1 c2 255 = c2 ∧ blend c1 c1 amount = c1

/-- `add`: each channel clamps on its own, or all four are scaled by `255/m` where the greatest sum
`m` exceeds 255; a zero operand gives the other one; the order does not matter (R102). -/
def Obligations.AddClampsOrKeepsTheRatio : Prop :=
  ∀ (c1 c2 : Color) (m : Nat), (∀ k, chan k c1 + chan k c2 ≤ m) →
    (∃ k, chan k c1 + chan k c2 = m) →
      (∀ k, chan k (add c1 c2 false) = min (chan k c1 + chan k c2) 255) ∧
      (m ≤ 255 → add c1 c2 true = add c1 c2 false) ∧
      (255 < m →
        (∀ k, chan k (add c1 c2 true) = (chan k c1 + chan k c2) * 255 / m) ∧
        ∃ k, chan k (add c1 c2 true) = 255) ∧
      (∀ p, add 0 c2 p = c2 ∧ add c1 0 p = c1 ∧ add c1 c2 p = add c2 c1 p)

/-- `fadeToBlack`: black at 0 in both modes, unchanged at 255, else scaled by `(amount+1)/256`, video
mode keeping a lit channel lit (R104). -/
def Obligations.FadeToBlackScalesEachChannel : Prop :=
  ∀ (c : Color) (amount : Nat) (video : Bool),
    fadeToBlack c 0 video = 0 ∧ fadeToBlack c 255 video = c ∧
    (1 ≤ amount → amount ≤ 254 → ∀ k,
      chan k (fadeToBlack c amount video) =
        (if video = true ∧ chan k c ≠ 0 ∧ (chan k c * (amount + 1)) >>> 8 < 1 then 1
        else (chan k c * (amount + 1)) >>> 8) ∧
      (chan k c = 255 → chan k (fadeToBlack c amount video) < 255))

/-- BLEND, ADD, ADD.P, FADE, FADE.V write their function's value to `R` and nothing else. -/
def Obligations.ColourMixerCommandsWriteR : Prop :=
  ∀ (s : State) (amount : Byte),
    exec (.blend amount) s = .next { s with r := blend s.a s.b amount.toNat } ∧
    exec .add s = .next { s with r := add s.a s.b false } ∧
    exec .addP s = .next { s with r := add s.a s.b true } ∧
    exec (.fade amount) s = .next { s with r := fadeToBlack s.a amount.toNat false } ∧
    exec (.fadeV amount) s = .next { s with r := fadeToBlack s.a amount.toNat true }

/-! ### The hue unit -/

/-- `hueWheel`: the three bands, continuous with step 3, closing at 255 (R110). -/
def Obligations.HueWheelHasThreeBands : Prop :=
  ∀ pos : Nat, pos ≤ 255 →
    chan .W (hueWheel pos) = 0 ∧
    (pos < 85 → chan .R (hueWheel pos) = 3 * pos ∧ chan .G (hueWheel pos) = 255 - 3 * pos ∧
      chan .B (hueWheel pos) = 0) ∧
    (85 ≤ pos → pos < 170 → chan .R (hueWheel pos) = 255 - 3 * (pos - 85) ∧
      chan .G (hueWheel pos) = 0 ∧ chan .B (hueWheel pos) = 3 * (pos - 85)) ∧
    (170 ≤ pos → chan .R (hueWheel pos) = 0 ∧ chan .G (hueWheel pos) = 3 * (pos - 170) ∧
      chan .B (hueWheel pos) = 255 - 3 * (pos - 170)) ∧
    (pos < 255 → ∀ k, chan k (hueWheel (pos + 1)) = chan k (hueWheel pos) ∨
      chan k (hueWheel (pos + 1)) = chan k (hueWheel pos) + 3 ∨
      chan k (hueWheel (pos + 1)) + 3 = chan k (hueWheel pos)) ∧
    hueWheel 0 = 0x0000FF00 ∧ hueWheel 85 = 0x00FF0000 ∧ hueWheel 255 = hueWheel 0

/-- `hsvToRgb`: gray at `s = 0`, else the sector interpolation and the permutation of the region
(R112). -/
def Obligations.HsvToRgbInterpolatesInItsRegion : Prop :=
  ∀ h s v : Nat, h < 65536 → s < 256 → v < 256 →
    let c := hsvToRgb h s v
    chan .W c = 0 ∧
    (s = 0 → chan .R c = v ∧ chan .G c = v ∧ chan .B c = v) ∧
    (s ≠ 0 →
      let region := h / 10923
      let rem := ((h - region * 10923) * 6) >>> 8
      let p := (v * (255 - s)) >>> 8
      let q := (v * (255 - ((s * rem) >>> 8))) >>> 8
      let t := (v * (255 - ((s * (255 - rem)) >>> 8))) >>> 8
      [(v, t, p), (q, v, p), (p, v, t), (p, q, v), (t, p, v), (v, p, q)][region]? =
        some (chan .R c, chan .G c, chan .B c))

/-- `rgbToHsv`: value, saturation, and the hue by floor division of a dividend that may be negative,
masked to 16 bits; ties go to red, then green (R114). -/
def Obligations.RgbToHsvFloorsAndMasksTheHue : Prop :=
  ∀ c : Color,
    let r := chan .R c
    let g := chan .G c
    let b := chan .B c
    let mx := max r (max g b)
    let d := mx - min r (min g b)
    let hsv := rgbToHsv c
    hsv.2.2 = mx ∧ hsv.1 < 65536 ∧ hsv.2.1 ≤ 255 ∧ mx ≤ 255 ∧
    (mx = 0 → hsv.2.1 = 0) ∧ (mx ≠ 0 → hsv.2.1 = 255 * d / mx) ∧ (d = 0 → hsv.1 = 0) ∧
    (d ≠ 0 → mx = r →
      (hsv.1 : Int) = (Int.fdiv (10923 * ((g : Int) - b)) d).fmod 65536) ∧
    (d ≠ 0 → mx ≠ r → mx = g →
      (hsv.1 : Int) = (21846 + Int.fdiv (10923 * ((b : Int) - r)) d).fmod 65536) ∧
    (d ≠ 0 → mx ≠ r → mx ≠ g →
      (hsv.1 : Int) = (43692 + Int.fdiv (10923 * ((r : Int) - g)) d).fmod 65536)

/-- WHEEL, HSV2RGB, RGB2HSV write `R` and nothing else; HSV words are `{h, s, v}` (R111, R113, R115,
R116). -/
def Obligations.HueCommandsWriteR : Prop :=
  ∀ (s : State) (pos : Byte),
    exec (.wheel pos) s = .next { s with r := hueWheel pos.toNat } ∧
    exec .hsv2rgb s = .next (s.setR (hsvToRgb (s.a.extractLsb' 16 16).toNat
      (s.a.extractLsb' 8 8).toNat (s.a.extractLsb' 0 8).toNat)) ∧
    ∃ x : Word, exec .rgb2hsv s = .next { s with r := x } ∧
      (x.extractLsb' 16 16).toNat = (rgbToHsv s.a).1 ∧
      (x.extractLsb' 8 8).toNat = (rgbToHsv s.a).2.1 ∧
      (x.extractLsb' 0 8).toNat = (rgbToHsv s.a).2.2

/-! ### The wave unit -/

/-- `sin16`: the table's points, linear interpolation with floor between them, mirrored and negated by
quadrant (R121). -/
def Obligations.Sin16InterpolatesTheTable : Prop :=
  (∀ o : Nat, o < 16384 → sin16 o =
    (sinLut.getD (o >>> 8) 0 : Int) +
      ((((sinLut.getD ((o >>> 8) + 1) 0 : Int) - (sinLut.getD (o >>> 8) 0 : Int)) *
        ((o &&& 0xFF : Nat) : Int)) >>> 8)) ∧
  sin16 16384 = 32767 ∧
  (∀ o : Nat, o < 16384 → sin16 (32768 - o) = sin16 o) ∧
  (∀ o : Nat, o < 32768 → sin16 (32768 + o) = -sin16 o)

/-- `sin16` keeps the source's contract: range, period, and monotonic shape on each quadrant; adjacent
inputs differ by at most 4 (R121, R127). -/
def Obligations.Sin16IsMonotonicPerQuadrant : Prop :=
  ∀ x : Nat, x < 65536 →
    -32767 ≤ sin16 x ∧ sin16 x ≤ 32767 ∧
    sin16 ((65536 - x) % 65536) = -sin16 x ∧
    ((x < 16384 ∨ (49152 ≤ x ∧ x < 65535)) →
      sin16 x ≤ sin16 (x + 1) ∧ sin16 (x + 1) ≤ sin16 x + 4) ∧
    (16384 ≤ x → x < 49152 → sin16 (x + 1) ≤ sin16 x ∧ sin16 x ≤ sin16 (x + 1) + 4)

/-- `triangleWave16`: the three stated values, slope 2 up and down, and the symmetry to within 1
(R125). -/
def Obligations.TriangleWaveIsTwoRamps : Prop :=
  triangleWave16 0 = 0 ∧ triangleWave16 0x4000 = 0x8000 ∧ triangleWave16 0xC000 = 0x7FFF ∧
  triangleWave16 0x8000 = 0xFFFF ∧
  ∀ x : Nat, x < 0xFFFF →
    (x < 0x7FFF → triangleWave16 (x + 1) = triangleWave16 x + 2) ∧
    (0x8000 ≤ x → triangleWave16 x = triangleWave16 (x + 1) + 2) ∧
    (x < 0x8000 → triangleWave16 (0xFFFF - x) = triangleWave16 x + 1)

/-- SIN8, SIN16, TRI16 write `R` and nothing else; SIN16's result is sign-extended, the other two fit
in 8 and 16 bits (R122 to R126). -/
def Obligations.WaveCommandsWriteR : Prop :=
  ∀ (s : State) (x8 : Byte) (x16 : Half), ∃ y8 y16 yt : Word,
    exec (.sin8 x8) s = .next { s with r := y8 } ∧
    (y8.toNat : Int) = (sin16 (x8.toNat * 256) + 32768) >>> 8 ∧ y8.toNat ≤ 255 ∧
    exec (.sin16 x16) s = .next { s with r := y16 } ∧ y16.toInt = sin16 x16.toNat ∧
    exec (.tri16 x16) s = .next { s with r := yt } ∧ yt.toNat = triangleWave16 x16.toNat ∧
    yt.toNat ≤ 65535

/-! ### The palette unit -/

/-- `palInterp` on a well-formed stop list: the end colours are held, and between two neighbouring
stops each channel is interpolated with one floor division (R132). -/
def Obligations.PaletteInterpolatesBetweenNeighbours : Prop :=
  ∀ (p : Palette) (pos : Nat), p.wf = true → pos ≤ 255 →
    (pos ≤ p.first.pos.toNat → palInterp p pos = p.first.color) ∧
    (∀ last, p.stops.getLast? = some last → last.pos.toNat ≤ pos →
      palInterp p pos = last.color) ∧
    (∀ (n : Nat) (a b : Stop), p.stops[n]? = some a → p.stops[n + 1]? = some b →
      a.pos.toNat ≤ pos → pos < b.pos.toNat →
        ∀ k, chan k (palInterp p pos) =
          (chan k a.color * ((b.pos.toNat - a.pos.toNat) - (pos - a.pos.toNat)) +
            chan k b.color * (pos - a.pos.toNat)) / (b.pos.toNat - a.pos.toNat))

/-- A known id selects its entry, an unknown one the default palette; the brightness scales every
channel by `bri / 255` with floor (R131, R133). That `PAL` is a list of pairs, of which the first entry
for an id counts, is the model's choice (assumption 4). -/
def Obligations.PaletteFallsBackAndScales : Prop :=
  ∀ (c : Config) (pid : Byte) (pos bri : Nat), pos ≤ 255 → bri ≤ 255 →
    ((∀ e ∈ c.pal, e.1 ≠ pid) → stopsOf c pid = c.palDefault) ∧
    (∀ (before after : List (Byte × Palette)) (p : Palette), c.pal = before ++ (pid, p) :: after →
      (∀ e ∈ before, e.1 ≠ pid) → stopsOf c pid = p) ∧
    (∀ k, chan k (colorFromPalette c pid pos bri) =
      chan k (palInterp (stopsOf c pid) pos) * bri / 255) ∧
    colorFromPalette c pid pos 255 = palInterp (stopsOf c pid) pos ∧
    colorFromPalette c pid pos 0 = 0

/-- PALCOLOR, SEGPAL and SEGPAL.I write `R` and nothing else. SEGPAL.I rescales its signed index by
`255 / (L - 1)` with floor division when `L > 1`; SEGPAL masks it (R134, R151, R152). -/
def Obligations.PaletteCommandsWriteR : Prop :=
  ∀ (s : State) (pid pos bri : Byte) (i : Half),
    exec (.palcolor pid pos bri) s =
      .next { s with r := colorFromPalette s.cfg pid pos.toNat bri.toNat } ∧
    ∃ p q : Nat,
      exec (.segpal i bri) s =
        .next { s with r := colorFromPalette s.cfg s.paletteId p bri.toNat } ∧
      (p : Int) = i.toInt.fmod 256 ∧
      exec (.segpalI i bri) s =
        .next { s with r := colorFromPalette s.cfg s.paletteId q bri.toNat } ∧
      (q : Int) =
        if 1 < s.len then (Int.fdiv (i.toInt * 255) ((s.len : Int) - 1)).fmod 256
        else i.toInt.fmod 256

/-! ### The segment unit -/

/-- SETPIX writes the one element `START + i` if `0 <= i < L` and `START + i < NUM_LEDS`, else nothing;
GETPIX reads it, or 0; GETPIX right after an accepted SETPIX returns `A` (R140 to R143). -/
def Obligations.PixelCommandsAreBoundsChecked : Prop :=
  ∀ (s : State) (i : Half), ∃ t : State,
    exec (.setpix i) s = .next t ∧ t = s.setPix t.pix ∧
    (0 ≤ i.toInt → i.toInt < s.len → s.segStart.toNat + i.toInt < s.cfg.numLeds →
      ∃ a : Nat, (a : Int) = s.segStart.toNat + i.toInt ∧
        (∀ k, pixRead k t = if k = a then s.a else pixRead k s) ∧
        exec (.getpix i) s = .next (s.setR (pixRead a s)) ∧
        exec (.getpix i) t = .next (t.setR s.a)) ∧
    (¬(0 ≤ i.toInt ∧ i.toInt < s.len ∧ s.segStart.toNat + i.toInt < s.cfg.numLeds) →
      t = s ∧ exec (.getpix i) s = .next (s.setR 0))

/-- FILL sets every pixel of the segment to `A`; FADEOUT fades each by its own old value, never in
video mode (R144 to R146). -/
def Obligations.FillAndFadeoutCoverTheSegment : Prop :=
  ∀ (s : State) (amount : Byte), ∃ t u : State,
    exec .fill s = .next t ∧ t = s.setPix t.pix ∧ paints s t (fun _ => s.a) ∧
    exec (.fadeout amount) s = .next u ∧ u = s.setPix u.pix ∧
    ∀ k, pixRead k u =
      if inSegment s k then fadeToBlack (pixRead k s) amount.toNat false else pixRead k s

/-- BLUR blends with the neighbours' values before the blur at half the amount; it is a no-op for
amount 0 and for fewer than three pixels (R147, R148). -/
def Obligations.BlurReadsTheOldNeighbours : Prop :=
  ∀ (s : State) (amount : Byte), ∃ t : State,
    exec (.blur amount) s = .next t ∧ t = s.setPix t.pix ∧
    (amount = 0 ∨ s.len < 3 → t = s) ∧
    (amount ≠ 0 → 3 ≤ s.len →
      paints s t (fun i =>
        let old := fun j : Nat => segGet (j : Int) s
        let h := amount.toNat / 2
        if i = 0 then blend (old 0) (old 1) h
        else if i = s.len - 1 then blend (old (s.len - 1)) (old (s.len - 2)) h
        else blend (blend (old i) (old (i - 1)) h) (old (i + 1)) h))

/-- NOW writes the elapsed time modulo 2^32 to `R`; GETCOLOR writes the colour register of a signed
index, or 0; nothing else changes (R150, R153, R207). -/
def Obligations.NowAndGetcolorWriteR : Prop :=
  ∀ (s : State) (i : Half), ∃ x y : Word,
    exec .now s = .next { s with r := x } ∧
    (x.toNat : Int) = ((s.env.clk : Int) - s.t0) % 2 ^ 32 ∧
    exec (.getcolor i) s = .next { s with r := y } ∧
    (i.toInt = 0 → y = s.color0) ∧ (i.toInt = 1 → y = s.color1) ∧ (i.toInt = 2 → y = s.color2) ∧
    (i.toInt < 0 ∨ 3 ≤ i.toInt → y = 0)

/-! ### The effects -/

/-- The general EFFECT row and the FX rows are one command: an id runs the row it belongs to. -/
def Obligations.EffectIdsRunTheirRow : Prop :=
  ∀ (id : Byte) (s : State), exec (.effect id) s = exec (effectRow id) s

/-- Static, and every EFFECT command where it falls back to Static: an unknown id, an empty segment,
one pixel in Scan, Dual-Scan and Color Wipe, a segment longer than DATA in Dynamic. The segment is
filled with `COLOR0`, the delay is 350 on `CALL = 0` and 24 otherwise (R160, R164, R201). -/
def Obligations.StaticAndItsFallbacks : Prop :=
  ∀ (i : Instr) (n : Nat) (s : State), effectNumber i = some n →
    (n = 0 ∨ 15 < n ∨ s.len = 0 ∨ (s.len ≤ 1 ∧ (n = 5 ∨ n = 6 ∨ n = 11)) ∨
      (s.cfg.dataCap < s.len ∧ n = 13)) →
    ∃ t, exec i s = .next t ∧ frameOf s t (if s.call = 0 then 350 else 24) ∧
      paints s t (fun _ => s.color0)

/-- Blink and Strobe: on at a cycle boundary or inside the on window (inclusive), where every pixel
shows its palette colour; off shows `COLOR1`; STEP holds the iteration index (R165, R166). -/
def Obligations.BlinkAndStrobeAreOnInTheirWindow : Prop :=
  ∀ s : State, s.len ≠ 0 →
    let t := (now s).toNat
    let base := (255 - s.speed.toNat) * 20
    let cyc := base + 48
    let it := t / cyc
    let gradient := fun (onT i : Nat) =>
      if it ≠ s.step.toNat ∨ t % cyc ≤ onT then segPal i true 255 s else s.color1
    ∃ u v : State,
      exec .fxBlink s = .next u ∧ frameOf { s with step := BitVec.ofNat 32 it } u 24 ∧
      paints s u (gradient (24 + ((base * s.intensity.toNat) >>> 8))) ∧
      exec .fxStrobe s = .next v ∧ frameOf { s with step := BitVec.ofNat 32 it } v 24 ∧
      paints s v (gradient 24)

/-- Breathe and Fade: one luminance for the whole segment, from the folded sine and from the triangle
wave, weighs the palette colour against `COLOR1`; no scratch state is used (R167, R168). -/
def Obligations.BreatheAndFadeCrossfade : Prop :=
  ∀ s : State, s.len ≠ 0 →
    let c0 := ((now s).toNat * ((s.speed.toNat >>> 3) + 10)) &&& 0xFFFF
    let c := (c0 >>> 2) + (c0 >>> 4)
    ∃ (var : Nat) (u v : State),
      (16384 ≤ c → var = 0) ∧
      (c ≤ 8192 → (var : Int) = Int.fdiv (sin16 c) 103) ∧
      (8192 < c → c < 16384 → (var : Int) = Int.fdiv (sin16 (8192 - (c - 8192))) 103) ∧
      exec .fxBreathe s = .next u ∧ frameOf s u 24 ∧
      paints s u (fun i => blend s.color1 (segPal i true 255 s) (30 + var)) ∧
      exec .fxFade s = .next v ∧ frameOf s v 24 ∧
      paints s v (fun i =>
        blend s.color1 (segPal i true 255 s) (triangleWave16 c0 >>> 8))

/-- Scan: the window that reflects between the two ends shows the palette, the rest `COLOR1`
(R169). Dual-Scan mirrors it as well (R170). A segment of at most one pixel runs Static. -/
def Obligations.ScanAndDualScanLightTheirWindows : Prop :=
  ∀ s : State,
    (s.len ≤ 1 → exec .fxScan s = exec .fxStatic s ∧ exec .fxDualScan s = exec .fxStatic s) ∧
    (2 ≤ s.len →
      let w := scanWindow (now s).toNat s.speed.toNat s.intensity.toNat s.len
      ∃ u v : State,
        exec .fxScan s = .next u ∧ frameOf s u 24 ∧
        paints s u (fun i => if inWindow w.2 w.1 i then segPal i true 255 s else s.color1) ∧
        exec .fxDualScan s = .next v ∧ frameOf s v 24 ∧
        paints s v (fun i =>
          if inWindow w.2 w.1 i ∨ inWindow w.2 w.1 (s.len - 1 - i) then segPal i true 255 s
          else s.color1))

/-- Rainbow: one hue for the whole segment, desaturated below INTENSITY 128; Rainbow-Cycle: a hue
gradient over it; no scratch state (R171, R172). -/
def Obligations.RainbowsTurnTheWheel : Prop :=
  ∀ s : State, s.len ≠ 0 →
    let c := (((now s).toNat * ((s.speed.toNat >>> 2) + 2)) &&& 0xFFFF) >>> 8
    ∃ u v : State,
      exec .fxRainbow s = .next u ∧ frameOf s u 24 ∧
      paints s u (fun _ =>
        if s.intensity.toNat < 128 then
          blend (hueWheel c) 0x00FFFFFF (128 - s.intensity.toNat)
        else hueWheel c) ∧
      exec .fxRainbowCycle s = .next v ∧ frameOf s v 24 ∧
      paints s v (fun i =>
        hueWheel ((i * (16 <<< (s.intensity.toNat / 29)) / s.len + c) &&& 0xFF))

/-- Theater Chase: every Nth pixel shows the palette; the offset in `AUX0` advances by exactly one mod
N at a detected boundary, and stays otherwise (R180). -/
def Obligations.TheaterChaseAdvancesOncePerBoundary : Prop :=
  ∀ s : State, s.len ≠ 0 →
    let n := 3 + s.intensity.toNat / 16
    let it := (now s).toNat / (50 + (255 - s.speed.toNat) * 2)
    let aux := if it ≠ s.step.toNat then (s.aux0.toNat + 1) % n else s.aux0.toNat
    ∃ u : State, exec .fxTheater s = .next u ∧
      frameOf { s with step := BitVec.ofNat 32 it, aux0 := BitVec.ofNat 32 aux } u 24 ∧
      paints s u (fun i => if i % n = aux then segPal i true 255 s else s.color1)

/-- Running Lights: each pixel's weight is `sin8` of a phase that may be negative before its mask; no
scratch state (R181). -/
def Obligations.RunningLightsFollowTheSine : Prop :=
  ∀ s : State, s.len ≠ 0 →
    let xs := s.intensity.toNat >>> 2
    let c := ((now s).toNat * s.speed.toNat % 2 ^ 32) >>> 9
    ∃ u : State, exec .fxRunning s = .next u ∧ frameOf s u 24 ∧
      paints s u (fun i =>
        blend s.color1 (segPal i true 255 s)
          (sin8 (((i : Int) * xs - c).fmod 256).toNat))

/-- Color Wipe: the palette spreads upward over `COLOR1`, then `COLOR1` spreads from the far end over
the palette; the boundary pixel blends the two by the remainder (R182). -/
def Obligations.ColorWipeSpreadsForwardThenBackward : Prop :=
  ∀ s : State, (s.len ≤ 1 → exec .fxWipe s = exec .fxStatic s) ∧
    (2 ≤ s.len →
      let cyc := 750 + (255 - s.speed.toNat) * 150
      let prog0 := (now s).toNat % cyc * 65535 / cyc
      let prog := if 32767 < prog0 then prog0 - 32767 else prog0
      let led := (prog * s.len) >>> 15
      let rem := min 255 (((prog * s.len * 2) &&& 0xFFFF) / (s.intensity.toNat + 1))
      ∃ u : State, exec .fxWipe s = .next u ∧ frameOf s u 24 ∧
        paints s u (fun i =>
          let pal := segPal i true 255 s
          if 32767 < prog0 then
            let j := s.len - 1 - i
            if j < led then s.color1 else if j = led then blend pal s.color1 rem else pal
          else if i < led then pal else if i = led then blend s.color1 pal rem else s.color1))

/-- Random Color: at a boundary the target becomes the previous position and a new one is drawn, one
draw, else none; the segment shows their blend by progress through the fade (R183; the draws are held
as assumption 3 says). -/
def Obligations.RandomColorFadesToItsTarget : Prop :=
  ∀ s : State, s.len ≠ 0 →
    let cyc := 200 + (255 - s.speed.toNat) * 50
    let it := (now s).toNat / cyc
    let fd := (cyc * s.intensity.toNat) >>> 8
    let f := if fd = 0 then 255 else min 255 ((now s).toNat % cyc * 255 / fd)
    ∃ u v : State, exec .fxRandomColor s = .next u ∧ frameOf v u 24 ∧
      (it = s.step.toNat → v = s) ∧
      (it ≠ s.step.toNat → v = { drawn s 1 with
          step := BitVec.ofNat 32 it, aux1 := s.aux0,
          aux0 := BitVec.ofNat 32 (rawDraw s 0 % 256) }) ∧
      paints s u (fun _ =>
        blend (hueWheel (v.aux1.toNat &&& 0xFF)) (hueWheel (v.aux0.toNat &&& 0xFF)) f)

/-- Dynamic: the hue array is zeroed when its length changes; at a boundary with SPEED not 0 each pixel
in turn draws, and draws a new hue iff the first draw is below INTENSITY; every pixel shows its hue
(R184; the draws are held as assumption 3 says). -/
def Obligations.DynamicRedrawsHuesAtABoundary : Prop :=
  ∀ s : State, (s.cfg.dataCap < s.len → exec .fxDynamic s = exec .fxStatic s) ∧
    (s.inv = true → s.len ≠ 0 → s.len ≤ s.cfg.dataCap →
      let it := (now s).toNat / (50 + (255 - s.speed.toNat) * 15)
      let old := fun i : Nat => if s.dataLen.toNat = s.len then (dataRead i s).toNat else 0
      ∃ (u : State) (pos : Nat → Nat), exec .fxDynamic s = .next u ∧
        frameOf { drawn s (pos s.len) with
            step := (if it ≠ s.step.toNat ∧ s.speed ≠ 0 then BitVec.ofNat 32 it else s.step)
            dataLen := BitVec.ofNat 16 s.len
            data := u.data } u 24 ∧
        pos 0 = 0 ∧
        (∀ i, i < s.len →
          if it ≠ s.step.toNat ∧ s.speed ≠ 0 then
            if rawDraw s (pos i) % 255 < s.intensity.toNat then
              (dataRead i u).toNat = rawDraw s (pos i + 1) % 256 ∧ pos (i + 1) = pos i + 2
            else (dataRead i u).toNat = old i ∧ pos (i + 1) = pos i + 1
          else (dataRead i u).toNat = old i ∧ pos (i + 1) = pos i) ∧
        (∀ i, s.len ≤ i → dataRead i u = dataRead i s) ∧
        paints s u (fun i => hueWheel (dataRead i u).toNat))

/-- Twinkle: every pixel fades by 224 each frame; at a boundary the count of sparks grows by one, or
restarts from a new seed at its cap; the generator's first `AUX0` positions from the seed in `AUX1`
show the palette. No draw is taken (R185). -/
def Obligations.TwinkleReplaysItsGenerator : Prop :=
  ∀ s : State, s.len ≠ 0 →
    let it := (now s).toNat / (20 + (255 - s.speed.toNat) * 5)
    let full := 1 + s.intensity.toNat * (s.len - 1) / 255 ≤ s.aux0.toNat
    ∃ u v : State, exec .fxTwinkle s = .next u ∧ frameOf v u 24 ∧
      (it = s.step.toNat → v = s) ∧
      (it ≠ s.step.toNat → full → v = { s with
          step := BitVec.ofNat 32 it, aux0 := 1,
          aux1 := BitVec.ofNat 32 (generator (s.aux1.toNat &&& 0xFFFF)) }) ∧
      (it ≠ s.step.toNat → ¬full →
        v = { s with step := BitVec.ofNat 32 it, aux0 := s.aux0 + 1 }) ∧
      ∀ k, inSegment s k →
        ((∃ n < v.aux0.toNat,
            (s.len * generator^[n + 1] (v.aux1.toNat &&& 0xFFFF)) >>> 16 =
              k - s.segStart.toNat) →
          pixRead k u = segPal (k - s.segStart.toNat : Nat) true 255 s) ∧
        ((∀ n < v.aux0.toNat,
            (s.len * generator^[n + 1] (v.aux1.toNat &&& 0xFFFF)) >>> 16 ≠
              k - s.segStart.toNat) →
          pixRead k u = fadeToBlack (pixRead k s) 224 false)

/-- Sparkle: the palette gradient, with the pixel whose index is in `AUX0` overlaid with `COLOR0`; one
draw of the index at a boundary, none otherwise (R186; the draws are held as assumption 3 says). -/
def Obligations.SparkleOverlaysOnePixel : Prop :=
  ∀ s : State, s.len ≠ 0 →
    let it := (now s).toNat / (10 + (255 - s.speed.toNat) * 2)
    ∃ u v : State, exec .fxSparkle s = .next u ∧ frameOf v u 24 ∧
      (it = s.step.toNat → v = s) ∧
      (it ≠ s.step.toNat → v = { drawn s 1 with
          step := BitVec.ofNat 32 it, aux0 := BitVec.ofNat 32 (rawDraw s 0 % s.len) }) ∧
      paints s u (fun i => if i = v.aux0.toNat then s.color0 else segPal i true 255 s)
end

