-- ==== Sys2Proof/Laws/Colors.lean ====
section
/-! SUPPORT. What packing and unpacking a colour word or an HSV word does (R10, R12, R116). -/

namespace Sys2Proof.Machine

theorem chan_lt (k : Channel) (c : Color) : chan k c < 256 := Nat.mod_lt _ (by decide)

theorem mkColor_toNat (w r g b : Nat) :
    (mkColor w r g b).toNat =
      w % 256 * 2 ^ 24 + r % 256 * 2 ^ 16 + g % 256 * 2 ^ 8 + b % 256 := by
  simp only [mkColor, Channel.low, chanBits, colorBits, BitVec.toNat_ofNat]
  omega

/-- Each channel of a built colour is the value given for it, cut to eight bits. -/
theorem chan_mkColor (w r g b : Nat) :
    chan .W (mkColor w r g b) = w % 256 ∧ chan .R (mkColor w r g b) = r % 256 ∧
      chan .G (mkColor w r g b) = g % 256 ∧ chan .B (mkColor w r g b) = b % 256 := by
  simp only [chan, Channel.low, chanBits, mkColor_toNat]
  omega

/-- Each channel of a colour built lane by lane is its lane's value, cut to eight bits. -/
theorem chan_lanes (k : Channel) (f : Channel → Nat) : chan k (lanes f) = f k % 256 := by
  obtain ⟨hw, hr, hg, hb⟩ := chan_mkColor (f .W) (f .R) (f .G) (f .B)
  cases k <;> assumption

/-- The same, for a value that fits. -/
theorem chan_lanes_of_lt (k : Channel) (f : Channel → Nat) (h : f k < 256) :
    chan k (lanes f) = f k := by
  rw [chan_lanes, Nat.mod_eq_of_lt h]

/-- Two colours with the same four channels are the same. -/
theorem color_ext {c d : Color} (h : ∀ k, chan k c = chan k d) : c = d := by
  have hw := h .W
  have hr := h .R
  have hg := h .G
  have hb := h .B
  simp only [chan, Channel.low, chanBits] at hw hr hg hb
  apply BitVec.eq_of_toNat_eq
  have h1 := c.isLt
  have h2 := d.isLt
  omega

@[simp] theorem chan_zero (k : Channel) : chan k 0 = 0 := by cases k <;> rfl

/-- A colour whose four channels are 0 is the zero colour. -/
theorem color_eq_zero_iff (c : Color) : c = 0 ↔ ∀ k, chan k c = 0 :=
  ⟨fun h k => by rw [h, chan_zero], fun h => color_ext fun k => by rw [h k, chan_zero]⟩

/-- The fields of a built HSV word. -/
theorem hsvWord_fields (h s v : Nat) :
    hueOf (hsvWord h s v) = h % 65536 ∧ satOf (hsvWord h s v) = s % 256 ∧
      valOf (hsvWord h s v) = v % 256 := by
  simp only [hueOf, satOf, valOf, hsvWord, hueBits, BitVec.toNat_ofNat]
  omega

end Sys2Proof.Machine
end

