-- ==== Sys2Proof/Laws/Constants.lean ====
section
/-! SUPPORT. The value of each named constant, so that no proof unfolds one (R5). -/

namespace Sys2Proof.Machine

@[simp] theorem chanBits_eq : chanBits = 8 := rfl
@[simp] theorem colorBits_eq : colorBits = 32 := rfl
@[simp] theorem hueBits_eq : hueBits = 16 := rfl
@[simp] theorem timeBits_eq : timeBits = 32 := rfl
@[simp] theorem frameTime_eq : frameTime = 24 := rfl
@[simp] theorem staticFirstDelay_eq : staticFirstDelay = 350 := rfl
@[simp] theorem hueRegion_eq : hueRegion = 10923 := rfl
@[simp] theorem twinkleFade_eq : twinkleFade = 224 := rfl
@[simp] theorem lcgMul_eq : lcgMul = 2053 := rfl
@[simp] theorem lcgAdd_eq : lcgAdd = 13849 := rfl
@[simp] theorem lcgMod_eq : lcgMod = 65536 := rfl
@[simp] theorem wipeReverseBack_eq : wipeReverseBack = true := rfl
@[simp] theorem hueSectors_eq : hueSectors = 6 := rfl
@[simp] theorem hsvShift_eq : hsvShift = 8 := rfl
@[simp] theorem paramMax_eq : paramMax = 255 := rfl
@[simp] theorem blinkScale_eq : blinkScale = 20 := rfl
@[simp] theorem blinkBase_eq : blinkBase = 48 := rfl
@[simp] theorem minimalOn_eq : minimalOn = 24 := rfl
@[simp] theorem blinkOnShift_eq : blinkOnShift = 8 := rfl
@[simp] theorem counterBits_eq : counterBits = 16 := rfl
@[simp] theorem breatheRateShift_eq : breatheRateShift = 3 := rfl
@[simp] theorem breatheRateBase_eq : breatheRateBase = 10 := rfl
@[simp] theorem breatheCoarseShift_eq : breatheCoarseShift = 2 := rfl
@[simp] theorem breatheFineShift_eq : breatheFineShift = 4 := rfl
@[simp] theorem breatheRest_eq : breatheRest = 16384 := rfl
@[simp] theorem breatheFold_eq : breatheFold = 8192 := rfl
@[simp] theorem breatheDivisor_eq : breatheDivisor = 103 := rfl
@[simp] theorem breatheFloor_eq : breatheFloor = 30 := rfl
@[simp] theorem fadeShift_eq : fadeShift = 8 := rfl
@[simp] theorem progressScale_eq : progressScale = 65535 := rfl
@[simp] theorem scanBase_eq : scanBase = 750 := rfl
@[simp] theorem scanScale_eq : scanScale = 150 := rfl
@[simp] theorem scanSizeShift_eq : scanSizeShift = 9 := rfl
@[simp] theorem scanTravel_eq : scanTravel = 2 := rfl
@[simp] theorem scanShift_eq : scanShift = 16 := rfl
@[simp] theorem rainbowRateShift_eq : rainbowRateShift = 2 := rfl
@[simp] theorem rainbowRateBase_eq : rainbowRateBase = 2 := rfl
@[simp] theorem rainbowShift_eq : rainbowShift = 8 := rfl
@[simp] theorem desaturateBelow_eq : desaturateBelow = 128 := rfl
@[simp] theorem rainbowCycleFactor_eq : rainbowCycleFactor = 16 := rfl
@[simp] theorem rainbowCycleDivisor_eq : rainbowCycleDivisor = 29 := rfl
@[simp] theorem wheelBits_eq : wheelBits = 8 := rfl
@[simp] theorem theaterBase_eq : theaterBase = 50 := rfl
@[simp] theorem theaterScale_eq : theaterScale = 2 := rfl
@[simp] theorem theaterMinWidth_eq : theaterMinWidth = 3 := rfl
@[simp] theorem theaterDivisor_eq : theaterDivisor = 16 := rfl
@[simp] theorem runningShift_eq : runningShift = 2 := rfl
@[simp] theorem runningCounterBits_eq : runningCounterBits = 32 := rfl
@[simp] theorem runningTimeShift_eq : runningTimeShift = 9 := rfl
@[simp] theorem wipeBase_eq : wipeBase = 750 := rfl
@[simp] theorem wipeScale_eq : wipeScale = 150 := rfl
@[simp] theorem wipeMiddle_eq : wipeMiddle = 32767 := rfl
@[simp] theorem wipeShift_eq : wipeShift = 15 := rfl
@[simp] theorem wipeRemFactor_eq : wipeRemFactor = 2 := rfl
@[simp] theorem wipeRemBits_eq : wipeRemBits = 16 := rfl
@[simp] theorem wipeSoftness_eq : wipeSoftness = 1 := rfl
@[simp] theorem wipeRemCap_eq : wipeRemCap = 255 := rfl
@[simp] theorem randomColorBase_eq : randomColorBase = 200 := rfl
@[simp] theorem randomColorScale_eq : randomColorScale = 50 := rfl
@[simp] theorem randomColorShift_eq : randomColorShift = 8 := rfl
@[simp] theorem randomColorWeightMax_eq : randomColorWeightMax = 255 := rfl
@[simp] theorem wheelPositions_eq : wheelPositions = 256 := rfl
@[simp] theorem dynamicBase_eq : dynamicBase = 50 := rfl
@[simp] theorem dynamicScale_eq : dynamicScale = 15 := rfl
@[simp] theorem dynamicChance_eq : dynamicChance = 255 := rfl
@[simp] theorem twinkleBase_eq : twinkleBase = 20 := rfl
@[simp] theorem twinkleScale_eq : twinkleScale = 5 := rfl
@[simp] theorem twinkleCapDivisor_eq : twinkleCapDivisor = 255 := rfl
@[simp] theorem twinkleShift_eq : twinkleShift = 16 := rfl
@[simp] theorem sparkleBase_eq : sparkleBase = 10 := rfl
@[simp] theorem sparkleScale_eq : sparkleScale = 2 := rfl

/-- A cycle length with its bound written out (R162). -/
theorem cycleLength_eq (base scale speed : Nat) :
    cycleLength base scale speed = base + (255 - speed) * scale := rfl

/-- No cycle is empty (R162, R200: every effect divides by its cycle length). -/
theorem cycleLength_pos (base scale speed : Nat) (h : 0 < base) : 0 < cycleLength base scale speed :=
  Nat.lt_of_lt_of_le h (Nat.le_add_right _ _)

end Sys2Proof.Machine
end

