-- ==== Sys2Proof/Laws/Decode.lean ====
section
/-! SUPPORT. The fields of a command word and the word of its fields (R70). -/

namespace Sys2Proof

theorem append_toNat {n m : Nat} (x : BitVec n) (y : BitVec m) :
    (x ++ y).toNat = x.toNat * 2 ^ m + y.toNat := by
  rw [BitVec.toNat_append, ← Nat.shiftLeft_add_eq_or_of_lt y.isLt, Nat.shiftLeft_eq]

/-- A word's value from its fields (R70). -/
theorem assemble_toNat (x : Fields) :
    (assemble x).toNat =
      x.op.toNat * 2 ^ 26 + x.f.toNat * 2 ^ 24 + x.b.toNat * 2 ^ 16 + x.imm.toNat := by
  have h : (assemble x).toNat = (x.op ++ x.f ++ x.b ++ x.imm).toNat := rfl
  rw [h, append_toNat, append_toNat, append_toNat]
  omega

/-- The fields of a word from its value (R70). -/
theorem fieldsOf_toNat (w : Word) :
    (fieldsOf w).op.toNat = w.toNat / 2 ^ 26 ∧ (fieldsOf w).f.toNat = w.toNat / 2 ^ 24 % 4 ∧
      (fieldsOf w).b.toNat = w.toNat / 2 ^ 16 % 256 ∧ (fieldsOf w).imm.toNat = w.toNat % 65536 := by
  have h := w.isLt
  refine ⟨?_, ?_, ?_, ?_⟩ <;>
    simp only [fieldsOf, BitVec.extractLsb'_toNat, Nat.shiftRight_eq_div_pow] <;> omega

/-- Taking a built word apart gives its fields back. -/
@[simp] theorem fieldsOf_assemble (x : Fields) : fieldsOf (assemble x) = x := by
  have e := assemble_toNat x
  obtain ⟨h1, h2, h3, h4⟩ := fieldsOf_toNat (assemble x)
  rw [e] at h1 h2 h3 h4
  have b1 := x.op.isLt
  have b2 := x.f.isLt
  have b3 := x.b.isLt
  have b4 := x.imm.isLt
  cases hx : fieldsOf (assemble x) with
  | mk op f b imm =>
    rw [hx] at h1 h2 h3 h4
    cases x
    simp only [Fields.mk.injEq] at *
    refine ⟨?_, ?_, ?_, ?_⟩ <;> apply BitVec.eq_of_toNat_eq <;> omega

/-- Building a word from its own fields gives it back. -/
@[simp] theorem assemble_fieldsOf (w : Word) : assemble (fieldsOf w) = w := by
  apply BitVec.eq_of_toNat_eq
  obtain ⟨h1, h2, h3, h4⟩ := fieldsOf_toNat w
  have h := w.isLt
  rw [assemble_toNat, h1, h2, h3, h4]
  omega

/-- The decoder on a built word reads the fields it was built from. -/
theorem decode_assemble (x : Fields) : decode (assemble x) = decodeFields x := by
  simp [decode]

end Sys2Proof
end

