-- ==== Sys2Proof/Laws/State.lean ====
section
/-! SUPPORT. What each named update of `State` does to each field, one lemma per field per update, so
that no proof unfolds a record update. -/

namespace Sys2Proof.Machine

section
variable (s : State) (v : Word)
@[simp] theorem State.setA_a : (s.setA v).a = v := rfl
@[simp] theorem State.setA_b : (s.setA v).b = s.b := rfl
@[simp] theorem State.setA_r : (s.setA v).r = s.r := rfl
@[simp] theorem State.setA_ill : (s.setA v).ill = s.ill := rfl
@[simp] theorem State.setA_segStart : (s.setA v).segStart = s.segStart := rfl
@[simp] theorem State.setA_segEnd : (s.setA v).segEnd = s.segEnd := rfl
@[simp] theorem State.setA_color0 : (s.setA v).color0 = s.color0 := rfl
@[simp] theorem State.setA_color1 : (s.setA v).color1 = s.color1 := rfl
@[simp] theorem State.setA_color2 : (s.setA v).color2 = s.color2 := rfl
@[simp] theorem State.setA_speed : (s.setA v).speed = s.speed := rfl
@[simp] theorem State.setA_intensity : (s.setA v).intensity = s.intensity := rfl
@[simp] theorem State.setA_custom1 : (s.setA v).custom1 = s.custom1 := rfl
@[simp] theorem State.setA_custom2 : (s.setA v).custom2 = s.custom2 := rfl
@[simp] theorem State.setA_custom3 : (s.setA v).custom3 = s.custom3 := rfl
@[simp] theorem State.setA_paletteId : (s.setA v).paletteId = s.paletteId := rfl
@[simp] theorem State.setA_call : (s.setA v).call = s.call := rfl
@[simp] theorem State.setA_step : (s.setA v).step = s.step := rfl
@[simp] theorem State.setA_aux0 : (s.setA v).aux0 = s.aux0 := rfl
@[simp] theorem State.setA_aux1 : (s.setA v).aux1 = s.aux1 := rfl
@[simp] theorem State.setA_dataLen : (s.setA v).dataLen = s.dataLen := rfl
@[simp] theorem State.setA_data : (s.setA v).data = s.data := rfl
@[simp] theorem State.setA_pix : (s.setA v).pix = s.pix := rfl
@[simp] theorem State.setA_t0 : (s.setA v).t0 = s.t0 := rfl
@[simp] theorem State.setA_boots : (s.setA v).boots = s.boots := rfl
@[simp] theorem State.setA_cfg : (s.setA v).cfg = s.cfg := rfl
@[simp] theorem State.setA_env : (s.setA v).env = s.env := rfl
end

section
variable (s : State) (v : Word)
@[simp] theorem State.setB_a : (s.setB v).a = s.a := rfl
@[simp] theorem State.setB_b : (s.setB v).b = v := rfl
@[simp] theorem State.setB_r : (s.setB v).r = s.r := rfl
@[simp] theorem State.setB_ill : (s.setB v).ill = s.ill := rfl
@[simp] theorem State.setB_segStart : (s.setB v).segStart = s.segStart := rfl
@[simp] theorem State.setB_segEnd : (s.setB v).segEnd = s.segEnd := rfl
@[simp] theorem State.setB_color0 : (s.setB v).color0 = s.color0 := rfl
@[simp] theorem State.setB_color1 : (s.setB v).color1 = s.color1 := rfl
@[simp] theorem State.setB_color2 : (s.setB v).color2 = s.color2 := rfl
@[simp] theorem State.setB_speed : (s.setB v).speed = s.speed := rfl
@[simp] theorem State.setB_intensity : (s.setB v).intensity = s.intensity := rfl
@[simp] theorem State.setB_custom1 : (s.setB v).custom1 = s.custom1 := rfl
@[simp] theorem State.setB_custom2 : (s.setB v).custom2 = s.custom2 := rfl
@[simp] theorem State.setB_custom3 : (s.setB v).custom3 = s.custom3 := rfl
@[simp] theorem State.setB_paletteId : (s.setB v).paletteId = s.paletteId := rfl
@[simp] theorem State.setB_call : (s.setB v).call = s.call := rfl
@[simp] theorem State.setB_step : (s.setB v).step = s.step := rfl
@[simp] theorem State.setB_aux0 : (s.setB v).aux0 = s.aux0 := rfl
@[simp] theorem State.setB_aux1 : (s.setB v).aux1 = s.aux1 := rfl
@[simp] theorem State.setB_dataLen : (s.setB v).dataLen = s.dataLen := rfl
@[simp] theorem State.setB_data : (s.setB v).data = s.data := rfl
@[simp] theorem State.setB_pix : (s.setB v).pix = s.pix := rfl
@[simp] theorem State.setB_t0 : (s.setB v).t0 = s.t0 := rfl
@[simp] theorem State.setB_boots : (s.setB v).boots = s.boots := rfl
@[simp] theorem State.setB_cfg : (s.setB v).cfg = s.cfg := rfl
@[simp] theorem State.setB_env : (s.setB v).env = s.env := rfl
end

section
variable (s : State) (v : Word)
@[simp] theorem State.setR_a : (s.setR v).a = s.a := rfl
@[simp] theorem State.setR_b : (s.setR v).b = s.b := rfl
@[simp] theorem State.setR_r : (s.setR v).r = v := rfl
@[simp] theorem State.setR_ill : (s.setR v).ill = s.ill := rfl
@[simp] theorem State.setR_segStart : (s.setR v).segStart = s.segStart := rfl
@[simp] theorem State.setR_segEnd : (s.setR v).segEnd = s.segEnd := rfl
@[simp] theorem State.setR_color0 : (s.setR v).color0 = s.color0 := rfl
@[simp] theorem State.setR_color1 : (s.setR v).color1 = s.color1 := rfl
@[simp] theorem State.setR_color2 : (s.setR v).color2 = s.color2 := rfl
@[simp] theorem State.setR_speed : (s.setR v).speed = s.speed := rfl
@[simp] theorem State.setR_intensity : (s.setR v).intensity = s.intensity := rfl
@[simp] theorem State.setR_custom1 : (s.setR v).custom1 = s.custom1 := rfl
@[simp] theorem State.setR_custom2 : (s.setR v).custom2 = s.custom2 := rfl
@[simp] theorem State.setR_custom3 : (s.setR v).custom3 = s.custom3 := rfl
@[simp] theorem State.setR_paletteId : (s.setR v).paletteId = s.paletteId := rfl
@[simp] theorem State.setR_call : (s.setR v).call = s.call := rfl
@[simp] theorem State.setR_step : (s.setR v).step = s.step := rfl
@[simp] theorem State.setR_aux0 : (s.setR v).aux0 = s.aux0 := rfl
@[simp] theorem State.setR_aux1 : (s.setR v).aux1 = s.aux1 := rfl
@[simp] theorem State.setR_dataLen : (s.setR v).dataLen = s.dataLen := rfl
@[simp] theorem State.setR_data : (s.setR v).data = s.data := rfl
@[simp] theorem State.setR_pix : (s.setR v).pix = s.pix := rfl
@[simp] theorem State.setR_t0 : (s.setR v).t0 = s.t0 := rfl
@[simp] theorem State.setR_boots : (s.setR v).boots = s.boots := rfl
@[simp] theorem State.setR_cfg : (s.setR v).cfg = s.cfg := rfl
@[simp] theorem State.setR_env : (s.setR v).env = s.env := rfl
end

section
variable (s : State) (v : Bool)
@[simp] theorem State.setIll_a : (s.setIll v).a = s.a := rfl
@[simp] theorem State.setIll_b : (s.setIll v).b = s.b := rfl
@[simp] theorem State.setIll_r : (s.setIll v).r = s.r := rfl
@[simp] theorem State.setIll_ill : (s.setIll v).ill = v := rfl
@[simp] theorem State.setIll_segStart : (s.setIll v).segStart = s.segStart := rfl
@[simp] theorem State.setIll_segEnd : (s.setIll v).segEnd = s.segEnd := rfl
@[simp] theorem State.setIll_color0 : (s.setIll v).color0 = s.color0 := rfl
@[simp] theorem State.setIll_color1 : (s.setIll v).color1 = s.color1 := rfl
@[simp] theorem State.setIll_color2 : (s.setIll v).color2 = s.color2 := rfl
@[simp] theorem State.setIll_speed : (s.setIll v).speed = s.speed := rfl
@[simp] theorem State.setIll_intensity : (s.setIll v).intensity = s.intensity := rfl
@[simp] theorem State.setIll_custom1 : (s.setIll v).custom1 = s.custom1 := rfl
@[simp] theorem State.setIll_custom2 : (s.setIll v).custom2 = s.custom2 := rfl
@[simp] theorem State.setIll_custom3 : (s.setIll v).custom3 = s.custom3 := rfl
@[simp] theorem State.setIll_paletteId : (s.setIll v).paletteId = s.paletteId := rfl
@[simp] theorem State.setIll_call : (s.setIll v).call = s.call := rfl
@[simp] theorem State.setIll_step : (s.setIll v).step = s.step := rfl
@[simp] theorem State.setIll_aux0 : (s.setIll v).aux0 = s.aux0 := rfl
@[simp] theorem State.setIll_aux1 : (s.setIll v).aux1 = s.aux1 := rfl
@[simp] theorem State.setIll_dataLen : (s.setIll v).dataLen = s.dataLen := rfl
@[simp] theorem State.setIll_data : (s.setIll v).data = s.data := rfl
@[simp] theorem State.setIll_pix : (s.setIll v).pix = s.pix := rfl
@[simp] theorem State.setIll_t0 : (s.setIll v).t0 = s.t0 := rfl
@[simp] theorem State.setIll_boots : (s.setIll v).boots = s.boots := rfl
@[simp] theorem State.setIll_cfg : (s.setIll v).cfg = s.cfg := rfl
@[simp] theorem State.setIll_env : (s.setIll v).env = s.env := rfl
end

section
variable (s : State) (v : Half)
@[simp] theorem State.setSegStart_a : (s.setSegStart v).a = s.a := rfl
@[simp] theorem State.setSegStart_b : (s.setSegStart v).b = s.b := rfl
@[simp] theorem State.setSegStart_r : (s.setSegStart v).r = s.r := rfl
@[simp] theorem State.setSegStart_ill : (s.setSegStart v).ill = s.ill := rfl
@[simp] theorem State.setSegStart_segStart : (s.setSegStart v).segStart = v := rfl
@[simp] theorem State.setSegStart_segEnd : (s.setSegStart v).segEnd = s.segEnd := rfl
@[simp] theorem State.setSegStart_color0 : (s.setSegStart v).color0 = s.color0 := rfl
@[simp] theorem State.setSegStart_color1 : (s.setSegStart v).color1 = s.color1 := rfl
@[simp] theorem State.setSegStart_color2 : (s.setSegStart v).color2 = s.color2 := rfl
@[simp] theorem State.setSegStart_speed : (s.setSegStart v).speed = s.speed := rfl
@[simp] theorem State.setSegStart_intensity : (s.setSegStart v).intensity = s.intensity := rfl
@[simp] theorem State.setSegStart_custom1 : (s.setSegStart v).custom1 = s.custom1 := rfl
@[simp] theorem State.setSegStart_custom2 : (s.setSegStart v).custom2 = s.custom2 := rfl
@[simp] theorem State.setSegStart_custom3 : (s.setSegStart v).custom3 = s.custom3 := rfl
@[simp] theorem State.setSegStart_paletteId : (s.setSegStart v).paletteId = s.paletteId := rfl
@[simp] theorem State.setSegStart_call : (s.setSegStart v).call = s.call := rfl
@[simp] theorem State.setSegStart_step : (s.setSegStart v).step = s.step := rfl
@[simp] theorem State.setSegStart_aux0 : (s.setSegStart v).aux0 = s.aux0 := rfl
@[simp] theorem State.setSegStart_aux1 : (s.setSegStart v).aux1 = s.aux1 := rfl
@[simp] theorem State.setSegStart_dataLen : (s.setSegStart v).dataLen = s.dataLen := rfl
@[simp] theorem State.setSegStart_data : (s.setSegStart v).data = s.data := rfl
@[simp] theorem State.setSegStart_pix : (s.setSegStart v).pix = s.pix := rfl
@[simp] theorem State.setSegStart_t0 : (s.setSegStart v).t0 = s.t0 := rfl
@[simp] theorem State.setSegStart_boots : (s.setSegStart v).boots = s.boots := rfl
@[simp] theorem State.setSegStart_cfg : (s.setSegStart v).cfg = s.cfg := rfl
@[simp] theorem State.setSegStart_env : (s.setSegStart v).env = s.env := rfl
end

section
variable (s : State) (v : Half)
@[simp] theorem State.setSegEnd_a : (s.setSegEnd v).a = s.a := rfl
@[simp] theorem State.setSegEnd_b : (s.setSegEnd v).b = s.b := rfl
@[simp] theorem State.setSegEnd_r : (s.setSegEnd v).r = s.r := rfl
@[simp] theorem State.setSegEnd_ill : (s.setSegEnd v).ill = s.ill := rfl
@[simp] theorem State.setSegEnd_segStart : (s.setSegEnd v).segStart = s.segStart := rfl
@[simp] theorem State.setSegEnd_segEnd : (s.setSegEnd v).segEnd = v := rfl
@[simp] theorem State.setSegEnd_color0 : (s.setSegEnd v).color0 = s.color0 := rfl
@[simp] theorem State.setSegEnd_color1 : (s.setSegEnd v).color1 = s.color1 := rfl
@[simp] theorem State.setSegEnd_color2 : (s.setSegEnd v).color2 = s.color2 := rfl
@[simp] theorem State.setSegEnd_speed : (s.setSegEnd v).speed = s.speed := rfl
@[simp] theorem State.setSegEnd_intensity : (s.setSegEnd v).intensity = s.intensity := rfl
@[simp] theorem State.setSegEnd_custom1 : (s.setSegEnd v).custom1 = s.custom1 := rfl
@[simp] theorem State.setSegEnd_custom2 : (s.setSegEnd v).custom2 = s.custom2 := rfl
@[simp] theorem State.setSegEnd_custom3 : (s.setSegEnd v).custom3 = s.custom3 := rfl
@[simp] theorem State.setSegEnd_paletteId : (s.setSegEnd v).paletteId = s.paletteId := rfl
@[simp] theorem State.setSegEnd_call : (s.setSegEnd v).call = s.call := rfl
@[simp] theorem State.setSegEnd_step : (s.setSegEnd v).step = s.step := rfl
@[simp] theorem State.setSegEnd_aux0 : (s.setSegEnd v).aux0 = s.aux0 := rfl
@[simp] theorem State.setSegEnd_aux1 : (s.setSegEnd v).aux1 = s.aux1 := rfl
@[simp] theorem State.setSegEnd_dataLen : (s.setSegEnd v).dataLen = s.dataLen := rfl
@[simp] theorem State.setSegEnd_data : (s.setSegEnd v).data = s.data := rfl
@[simp] theorem State.setSegEnd_pix : (s.setSegEnd v).pix = s.pix := rfl
@[simp] theorem State.setSegEnd_t0 : (s.setSegEnd v).t0 = s.t0 := rfl
@[simp] theorem State.setSegEnd_boots : (s.setSegEnd v).boots = s.boots := rfl
@[simp] theorem State.setSegEnd_cfg : (s.setSegEnd v).cfg = s.cfg := rfl
@[simp] theorem State.setSegEnd_env : (s.setSegEnd v).env = s.env := rfl
end

section
variable (s : State) (v : Color)
@[simp] theorem State.setColor0_a : (s.setColor0 v).a = s.a := rfl
@[simp] theorem State.setColor0_b : (s.setColor0 v).b = s.b := rfl
@[simp] theorem State.setColor0_r : (s.setColor0 v).r = s.r := rfl
@[simp] theorem State.setColor0_ill : (s.setColor0 v).ill = s.ill := rfl
@[simp] theorem State.setColor0_segStart : (s.setColor0 v).segStart = s.segStart := rfl
@[simp] theorem State.setColor0_segEnd : (s.setColor0 v).segEnd = s.segEnd := rfl
@[simp] theorem State.setColor0_color0 : (s.setColor0 v).color0 = v := rfl
@[simp] theorem State.setColor0_color1 : (s.setColor0 v).color1 = s.color1 := rfl
@[simp] theorem State.setColor0_color2 : (s.setColor0 v).color2 = s.color2 := rfl
@[simp] theorem State.setColor0_speed : (s.setColor0 v).speed = s.speed := rfl
@[simp] theorem State.setColor0_intensity : (s.setColor0 v).intensity = s.intensity := rfl
@[simp] theorem State.setColor0_custom1 : (s.setColor0 v).custom1 = s.custom1 := rfl
@[simp] theorem State.setColor0_custom2 : (s.setColor0 v).custom2 = s.custom2 := rfl
@[simp] theorem State.setColor0_custom3 : (s.setColor0 v).custom3 = s.custom3 := rfl
@[simp] theorem State.setColor0_paletteId : (s.setColor0 v).paletteId = s.paletteId := rfl
@[simp] theorem State.setColor0_call : (s.setColor0 v).call = s.call := rfl
@[simp] theorem State.setColor0_step : (s.setColor0 v).step = s.step := rfl
@[simp] theorem State.setColor0_aux0 : (s.setColor0 v).aux0 = s.aux0 := rfl
@[simp] theorem State.setColor0_aux1 : (s.setColor0 v).aux1 = s.aux1 := rfl
@[simp] theorem State.setColor0_dataLen : (s.setColor0 v).dataLen = s.dataLen := rfl
@[simp] theorem State.setColor0_data : (s.setColor0 v).data = s.data := rfl
@[simp] theorem State.setColor0_pix : (s.setColor0 v).pix = s.pix := rfl
@[simp] theorem State.setColor0_t0 : (s.setColor0 v).t0 = s.t0 := rfl
@[simp] theorem State.setColor0_boots : (s.setColor0 v).boots = s.boots := rfl
@[simp] theorem State.setColor0_cfg : (s.setColor0 v).cfg = s.cfg := rfl
@[simp] theorem State.setColor0_env : (s.setColor0 v).env = s.env := rfl
end

section
variable (s : State) (v : Color)
@[simp] theorem State.setColor1_a : (s.setColor1 v).a = s.a := rfl
@[simp] theorem State.setColor1_b : (s.setColor1 v).b = s.b := rfl
@[simp] theorem State.setColor1_r : (s.setColor1 v).r = s.r := rfl
@[simp] theorem State.setColor1_ill : (s.setColor1 v).ill = s.ill := rfl
@[simp] theorem State.setColor1_segStart : (s.setColor1 v).segStart = s.segStart := rfl
@[simp] theorem State.setColor1_segEnd : (s.setColor1 v).segEnd = s.segEnd := rfl
@[simp] theorem State.setColor1_color0 : (s.setColor1 v).color0 = s.color0 := rfl
@[simp] theorem State.setColor1_color1 : (s.setColor1 v).color1 = v := rfl
@[simp] theorem State.setColor1_color2 : (s.setColor1 v).color2 = s.color2 := rfl
@[simp] theorem State.setColor1_speed : (s.setColor1 v).speed = s.speed := rfl
@[simp] theorem State.setColor1_intensity : (s.setColor1 v).intensity = s.intensity := rfl
@[simp] theorem State.setColor1_custom1 : (s.setColor1 v).custom1 = s.custom1 := rfl
@[simp] theorem State.setColor1_custom2 : (s.setColor1 v).custom2 = s.custom2 := rfl
@[simp] theorem State.setColor1_custom3 : (s.setColor1 v).custom3 = s.custom3 := rfl
@[simp] theorem State.setColor1_paletteId : (s.setColor1 v).paletteId = s.paletteId := rfl
@[simp] theorem State.setColor1_call : (s.setColor1 v).call = s.call := rfl
@[simp] theorem State.setColor1_step : (s.setColor1 v).step = s.step := rfl
@[simp] theorem State.setColor1_aux0 : (s.setColor1 v).aux0 = s.aux0 := rfl
@[simp] theorem State.setColor1_aux1 : (s.setColor1 v).aux1 = s.aux1 := rfl
@[simp] theorem State.setColor1_dataLen : (s.setColor1 v).dataLen = s.dataLen := rfl
@[simp] theorem State.setColor1_data : (s.setColor1 v).data = s.data := rfl
@[simp] theorem State.setColor1_pix : (s.setColor1 v).pix = s.pix := rfl
@[simp] theorem State.setColor1_t0 : (s.setColor1 v).t0 = s.t0 := rfl
@[simp] theorem State.setColor1_boots : (s.setColor1 v).boots = s.boots := rfl
@[simp] theorem State.setColor1_cfg : (s.setColor1 v).cfg = s.cfg := rfl
@[simp] theorem State.setColor1_env : (s.setColor1 v).env = s.env := rfl
end

section
variable (s : State) (v : Color)
@[simp] theorem State.setColor2_a : (s.setColor2 v).a = s.a := rfl
@[simp] theorem State.setColor2_b : (s.setColor2 v).b = s.b := rfl
@[simp] theorem State.setColor2_r : (s.setColor2 v).r = s.r := rfl
@[simp] theorem State.setColor2_ill : (s.setColor2 v).ill = s.ill := rfl
@[simp] theorem State.setColor2_segStart : (s.setColor2 v).segStart = s.segStart := rfl
@[simp] theorem State.setColor2_segEnd : (s.setColor2 v).segEnd = s.segEnd := rfl
@[simp] theorem State.setColor2_color0 : (s.setColor2 v).color0 = s.color0 := rfl
@[simp] theorem State.setColor2_color1 : (s.setColor2 v).color1 = s.color1 := rfl
@[simp] theorem State.setColor2_color2 : (s.setColor2 v).color2 = v := rfl
@[simp] theorem State.setColor2_speed : (s.setColor2 v).speed = s.speed := rfl
@[simp] theorem State.setColor2_intensity : (s.setColor2 v).intensity = s.intensity := rfl
@[simp] theorem State.setColor2_custom1 : (s.setColor2 v).custom1 = s.custom1 := rfl
@[simp] theorem State.setColor2_custom2 : (s.setColor2 v).custom2 = s.custom2 := rfl
@[simp] theorem State.setColor2_custom3 : (s.setColor2 v).custom3 = s.custom3 := rfl
@[simp] theorem State.setColor2_paletteId : (s.setColor2 v).paletteId = s.paletteId := rfl
@[simp] theorem State.setColor2_call : (s.setColor2 v).call = s.call := rfl
@[simp] theorem State.setColor2_step : (s.setColor2 v).step = s.step := rfl
@[simp] theorem State.setColor2_aux0 : (s.setColor2 v).aux0 = s.aux0 := rfl
@[simp] theorem State.setColor2_aux1 : (s.setColor2 v).aux1 = s.aux1 := rfl
@[simp] theorem State.setColor2_dataLen : (s.setColor2 v).dataLen = s.dataLen := rfl
@[simp] theorem State.setColor2_data : (s.setColor2 v).data = s.data := rfl
@[simp] theorem State.setColor2_pix : (s.setColor2 v).pix = s.pix := rfl
@[simp] theorem State.setColor2_t0 : (s.setColor2 v).t0 = s.t0 := rfl
@[simp] theorem State.setColor2_boots : (s.setColor2 v).boots = s.boots := rfl
@[simp] theorem State.setColor2_cfg : (s.setColor2 v).cfg = s.cfg := rfl
@[simp] theorem State.setColor2_env : (s.setColor2 v).env = s.env := rfl
end

section
variable (s : State) (v : Byte)
@[simp] theorem State.setSpeed_a : (s.setSpeed v).a = s.a := rfl
@[simp] theorem State.setSpeed_b : (s.setSpeed v).b = s.b := rfl
@[simp] theorem State.setSpeed_r : (s.setSpeed v).r = s.r := rfl
@[simp] theorem State.setSpeed_ill : (s.setSpeed v).ill = s.ill := rfl
@[simp] theorem State.setSpeed_segStart : (s.setSpeed v).segStart = s.segStart := rfl
@[simp] theorem State.setSpeed_segEnd : (s.setSpeed v).segEnd = s.segEnd := rfl
@[simp] theorem State.setSpeed_color0 : (s.setSpeed v).color0 = s.color0 := rfl
@[simp] theorem State.setSpeed_color1 : (s.setSpeed v).color1 = s.color1 := rfl
@[simp] theorem State.setSpeed_color2 : (s.setSpeed v).color2 = s.color2 := rfl
@[simp] theorem State.setSpeed_speed : (s.setSpeed v).speed = v := rfl
@[simp] theorem State.setSpeed_intensity : (s.setSpeed v).intensity = s.intensity := rfl
@[simp] theorem State.setSpeed_custom1 : (s.setSpeed v).custom1 = s.custom1 := rfl
@[simp] theorem State.setSpeed_custom2 : (s.setSpeed v).custom2 = s.custom2 := rfl
@[simp] theorem State.setSpeed_custom3 : (s.setSpeed v).custom3 = s.custom3 := rfl
@[simp] theorem State.setSpeed_paletteId : (s.setSpeed v).paletteId = s.paletteId := rfl
@[simp] theorem State.setSpeed_call : (s.setSpeed v).call = s.call := rfl
@[simp] theorem State.setSpeed_step : (s.setSpeed v).step = s.step := rfl
@[simp] theorem State.setSpeed_aux0 : (s.setSpeed v).aux0 = s.aux0 := rfl
@[simp] theorem State.setSpeed_aux1 : (s.setSpeed v).aux1 = s.aux1 := rfl
@[simp] theorem State.setSpeed_dataLen : (s.setSpeed v).dataLen = s.dataLen := rfl
@[simp] theorem State.setSpeed_data : (s.setSpeed v).data = s.data := rfl
@[simp] theorem State.setSpeed_pix : (s.setSpeed v).pix = s.pix := rfl
@[simp] theorem State.setSpeed_t0 : (s.setSpeed v).t0 = s.t0 := rfl
@[simp] theorem State.setSpeed_boots : (s.setSpeed v).boots = s.boots := rfl
@[simp] theorem State.setSpeed_cfg : (s.setSpeed v).cfg = s.cfg := rfl
@[simp] theorem State.setSpeed_env : (s.setSpeed v).env = s.env := rfl
end

section
variable (s : State) (v : Byte)
@[simp] theorem State.setIntensity_a : (s.setIntensity v).a = s.a := rfl
@[simp] theorem State.setIntensity_b : (s.setIntensity v).b = s.b := rfl
@[simp] theorem State.setIntensity_r : (s.setIntensity v).r = s.r := rfl
@[simp] theorem State.setIntensity_ill : (s.setIntensity v).ill = s.ill := rfl
@[simp] theorem State.setIntensity_segStart : (s.setIntensity v).segStart = s.segStart := rfl
@[simp] theorem State.setIntensity_segEnd : (s.setIntensity v).segEnd = s.segEnd := rfl
@[simp] theorem State.setIntensity_color0 : (s.setIntensity v).color0 = s.color0 := rfl
@[simp] theorem State.setIntensity_color1 : (s.setIntensity v).color1 = s.color1 := rfl
@[simp] theorem State.setIntensity_color2 : (s.setIntensity v).color2 = s.color2 := rfl
@[simp] theorem State.setIntensity_speed : (s.setIntensity v).speed = s.speed := rfl
@[simp] theorem State.setIntensity_intensity : (s.setIntensity v).intensity = v := rfl
@[simp] theorem State.setIntensity_custom1 : (s.setIntensity v).custom1 = s.custom1 := rfl
@[simp] theorem State.setIntensity_custom2 : (s.setIntensity v).custom2 = s.custom2 := rfl
@[simp] theorem State.setIntensity_custom3 : (s.setIntensity v).custom3 = s.custom3 := rfl
@[simp] theorem State.setIntensity_paletteId : (s.setIntensity v).paletteId = s.paletteId := rfl
@[simp] theorem State.setIntensity_call : (s.setIntensity v).call = s.call := rfl
@[simp] theorem State.setIntensity_step : (s.setIntensity v).step = s.step := rfl
@[simp] theorem State.setIntensity_aux0 : (s.setIntensity v).aux0 = s.aux0 := rfl
@[simp] theorem State.setIntensity_aux1 : (s.setIntensity v).aux1 = s.aux1 := rfl
@[simp] theorem State.setIntensity_dataLen : (s.setIntensity v).dataLen = s.dataLen := rfl
@[simp] theorem State.setIntensity_data : (s.setIntensity v).data = s.data := rfl
@[simp] theorem State.setIntensity_pix : (s.setIntensity v).pix = s.pix := rfl
@[simp] theorem State.setIntensity_t0 : (s.setIntensity v).t0 = s.t0 := rfl
@[simp] theorem State.setIntensity_boots : (s.setIntensity v).boots = s.boots := rfl
@[simp] theorem State.setIntensity_cfg : (s.setIntensity v).cfg = s.cfg := rfl
@[simp] theorem State.setIntensity_env : (s.setIntensity v).env = s.env := rfl
end

section
variable (s : State) (v : Byte)
@[simp] theorem State.setCustom1_a : (s.setCustom1 v).a = s.a := rfl
@[simp] theorem State.setCustom1_b : (s.setCustom1 v).b = s.b := rfl
@[simp] theorem State.setCustom1_r : (s.setCustom1 v).r = s.r := rfl
@[simp] theorem State.setCustom1_ill : (s.setCustom1 v).ill = s.ill := rfl
@[simp] theorem State.setCustom1_segStart : (s.setCustom1 v).segStart = s.segStart := rfl
@[simp] theorem State.setCustom1_segEnd : (s.setCustom1 v).segEnd = s.segEnd := rfl
@[simp] theorem State.setCustom1_color0 : (s.setCustom1 v).color0 = s.color0 := rfl
@[simp] theorem State.setCustom1_color1 : (s.setCustom1 v).color1 = s.color1 := rfl
@[simp] theorem State.setCustom1_color2 : (s.setCustom1 v).color2 = s.color2 := rfl
@[simp] theorem State.setCustom1_speed : (s.setCustom1 v).speed = s.speed := rfl
@[simp] theorem State.setCustom1_intensity : (s.setCustom1 v).intensity = s.intensity := rfl
@[simp] theorem State.setCustom1_custom1 : (s.setCustom1 v).custom1 = v := rfl
@[simp] theorem State.setCustom1_custom2 : (s.setCustom1 v).custom2 = s.custom2 := rfl
@[simp] theorem State.setCustom1_custom3 : (s.setCustom1 v).custom3 = s.custom3 := rfl
@[simp] theorem State.setCustom1_paletteId : (s.setCustom1 v).paletteId = s.paletteId := rfl
@[simp] theorem State.setCustom1_call : (s.setCustom1 v).call = s.call := rfl
@[simp] theorem State.setCustom1_step : (s.setCustom1 v).step = s.step := rfl
@[simp] theorem State.setCustom1_aux0 : (s.setCustom1 v).aux0 = s.aux0 := rfl
@[simp] theorem State.setCustom1_aux1 : (s.setCustom1 v).aux1 = s.aux1 := rfl
@[simp] theorem State.setCustom1_dataLen : (s.setCustom1 v).dataLen = s.dataLen := rfl
@[simp] theorem State.setCustom1_data : (s.setCustom1 v).data = s.data := rfl
@[simp] theorem State.setCustom1_pix : (s.setCustom1 v).pix = s.pix := rfl
@[simp] theorem State.setCustom1_t0 : (s.setCustom1 v).t0 = s.t0 := rfl
@[simp] theorem State.setCustom1_boots : (s.setCustom1 v).boots = s.boots := rfl
@[simp] theorem State.setCustom1_cfg : (s.setCustom1 v).cfg = s.cfg := rfl
@[simp] theorem State.setCustom1_env : (s.setCustom1 v).env = s.env := rfl
end

section
variable (s : State) (v : Byte)
@[simp] theorem State.setCustom2_a : (s.setCustom2 v).a = s.a := rfl
@[simp] theorem State.setCustom2_b : (s.setCustom2 v).b = s.b := rfl
@[simp] theorem State.setCustom2_r : (s.setCustom2 v).r = s.r := rfl
@[simp] theorem State.setCustom2_ill : (s.setCustom2 v).ill = s.ill := rfl
@[simp] theorem State.setCustom2_segStart : (s.setCustom2 v).segStart = s.segStart := rfl
@[simp] theorem State.setCustom2_segEnd : (s.setCustom2 v).segEnd = s.segEnd := rfl
@[simp] theorem State.setCustom2_color0 : (s.setCustom2 v).color0 = s.color0 := rfl
@[simp] theorem State.setCustom2_color1 : (s.setCustom2 v).color1 = s.color1 := rfl
@[simp] theorem State.setCustom2_color2 : (s.setCustom2 v).color2 = s.color2 := rfl
@[simp] theorem State.setCustom2_speed : (s.setCustom2 v).speed = s.speed := rfl
@[simp] theorem State.setCustom2_intensity : (s.setCustom2 v).intensity = s.intensity := rfl
@[simp] theorem State.setCustom2_custom1 : (s.setCustom2 v).custom1 = s.custom1 := rfl
@[simp] theorem State.setCustom2_custom2 : (s.setCustom2 v).custom2 = v := rfl
@[simp] theorem State.setCustom2_custom3 : (s.setCustom2 v).custom3 = s.custom3 := rfl
@[simp] theorem State.setCustom2_paletteId : (s.setCustom2 v).paletteId = s.paletteId := rfl
@[simp] theorem State.setCustom2_call : (s.setCustom2 v).call = s.call := rfl
@[simp] theorem State.setCustom2_step : (s.setCustom2 v).step = s.step := rfl
@[simp] theorem State.setCustom2_aux0 : (s.setCustom2 v).aux0 = s.aux0 := rfl
@[simp] theorem State.setCustom2_aux1 : (s.setCustom2 v).aux1 = s.aux1 := rfl
@[simp] theorem State.setCustom2_dataLen : (s.setCustom2 v).dataLen = s.dataLen := rfl
@[simp] theorem State.setCustom2_data : (s.setCustom2 v).data = s.data := rfl
@[simp] theorem State.setCustom2_pix : (s.setCustom2 v).pix = s.pix := rfl
@[simp] theorem State.setCustom2_t0 : (s.setCustom2 v).t0 = s.t0 := rfl
@[simp] theorem State.setCustom2_boots : (s.setCustom2 v).boots = s.boots := rfl
@[simp] theorem State.setCustom2_cfg : (s.setCustom2 v).cfg = s.cfg := rfl
@[simp] theorem State.setCustom2_env : (s.setCustom2 v).env = s.env := rfl
end

section
variable (s : State) (v : Byte)
@[simp] theorem State.setCustom3_a : (s.setCustom3 v).a = s.a := rfl
@[simp] theorem State.setCustom3_b : (s.setCustom3 v).b = s.b := rfl
@[simp] theorem State.setCustom3_r : (s.setCustom3 v).r = s.r := rfl
@[simp] theorem State.setCustom3_ill : (s.setCustom3 v).ill = s.ill := rfl
@[simp] theorem State.setCustom3_segStart : (s.setCustom3 v).segStart = s.segStart := rfl
@[simp] theorem State.setCustom3_segEnd : (s.setCustom3 v).segEnd = s.segEnd := rfl
@[simp] theorem State.setCustom3_color0 : (s.setCustom3 v).color0 = s.color0 := rfl
@[simp] theorem State.setCustom3_color1 : (s.setCustom3 v).color1 = s.color1 := rfl
@[simp] theorem State.setCustom3_color2 : (s.setCustom3 v).color2 = s.color2 := rfl
@[simp] theorem State.setCustom3_speed : (s.setCustom3 v).speed = s.speed := rfl
@[simp] theorem State.setCustom3_intensity : (s.setCustom3 v).intensity = s.intensity := rfl
@[simp] theorem State.setCustom3_custom1 : (s.setCustom3 v).custom1 = s.custom1 := rfl
@[simp] theorem State.setCustom3_custom2 : (s.setCustom3 v).custom2 = s.custom2 := rfl
@[simp] theorem State.setCustom3_custom3 : (s.setCustom3 v).custom3 = v := rfl
@[simp] theorem State.setCustom3_paletteId : (s.setCustom3 v).paletteId = s.paletteId := rfl
@[simp] theorem State.setCustom3_call : (s.setCustom3 v).call = s.call := rfl
@[simp] theorem State.setCustom3_step : (s.setCustom3 v).step = s.step := rfl
@[simp] theorem State.setCustom3_aux0 : (s.setCustom3 v).aux0 = s.aux0 := rfl
@[simp] theorem State.setCustom3_aux1 : (s.setCustom3 v).aux1 = s.aux1 := rfl
@[simp] theorem State.setCustom3_dataLen : (s.setCustom3 v).dataLen = s.dataLen := rfl
@[simp] theorem State.setCustom3_data : (s.setCustom3 v).data = s.data := rfl
@[simp] theorem State.setCustom3_pix : (s.setCustom3 v).pix = s.pix := rfl
@[simp] theorem State.setCustom3_t0 : (s.setCustom3 v).t0 = s.t0 := rfl
@[simp] theorem State.setCustom3_boots : (s.setCustom3 v).boots = s.boots := rfl
@[simp] theorem State.setCustom3_cfg : (s.setCustom3 v).cfg = s.cfg := rfl
@[simp] theorem State.setCustom3_env : (s.setCustom3 v).env = s.env := rfl
end

section
variable (s : State) (v : Byte)
@[simp] theorem State.setPaletteId_a : (s.setPaletteId v).a = s.a := rfl
@[simp] theorem State.setPaletteId_b : (s.setPaletteId v).b = s.b := rfl
@[simp] theorem State.setPaletteId_r : (s.setPaletteId v).r = s.r := rfl
@[simp] theorem State.setPaletteId_ill : (s.setPaletteId v).ill = s.ill := rfl
@[simp] theorem State.setPaletteId_segStart : (s.setPaletteId v).segStart = s.segStart := rfl
@[simp] theorem State.setPaletteId_segEnd : (s.setPaletteId v).segEnd = s.segEnd := rfl
@[simp] theorem State.setPaletteId_color0 : (s.setPaletteId v).color0 = s.color0 := rfl
@[simp] theorem State.setPaletteId_color1 : (s.setPaletteId v).color1 = s.color1 := rfl
@[simp] theorem State.setPaletteId_color2 : (s.setPaletteId v).color2 = s.color2 := rfl
@[simp] theorem State.setPaletteId_speed : (s.setPaletteId v).speed = s.speed := rfl
@[simp] theorem State.setPaletteId_intensity : (s.setPaletteId v).intensity = s.intensity := rfl
@[simp] theorem State.setPaletteId_custom1 : (s.setPaletteId v).custom1 = s.custom1 := rfl
@[simp] theorem State.setPaletteId_custom2 : (s.setPaletteId v).custom2 = s.custom2 := rfl
@[simp] theorem State.setPaletteId_custom3 : (s.setPaletteId v).custom3 = s.custom3 := rfl
@[simp] theorem State.setPaletteId_paletteId : (s.setPaletteId v).paletteId = v := rfl
@[simp] theorem State.setPaletteId_call : (s.setPaletteId v).call = s.call := rfl
@[simp] theorem State.setPaletteId_step : (s.setPaletteId v).step = s.step := rfl
@[simp] theorem State.setPaletteId_aux0 : (s.setPaletteId v).aux0 = s.aux0 := rfl
@[simp] theorem State.setPaletteId_aux1 : (s.setPaletteId v).aux1 = s.aux1 := rfl
@[simp] theorem State.setPaletteId_dataLen : (s.setPaletteId v).dataLen = s.dataLen := rfl
@[simp] theorem State.setPaletteId_data : (s.setPaletteId v).data = s.data := rfl
@[simp] theorem State.setPaletteId_pix : (s.setPaletteId v).pix = s.pix := rfl
@[simp] theorem State.setPaletteId_t0 : (s.setPaletteId v).t0 = s.t0 := rfl
@[simp] theorem State.setPaletteId_boots : (s.setPaletteId v).boots = s.boots := rfl
@[simp] theorem State.setPaletteId_cfg : (s.setPaletteId v).cfg = s.cfg := rfl
@[simp] theorem State.setPaletteId_env : (s.setPaletteId v).env = s.env := rfl
end

section
variable (s : State) (v : Word)
@[simp] theorem State.setCall_a : (s.setCall v).a = s.a := rfl
@[simp] theorem State.setCall_b : (s.setCall v).b = s.b := rfl
@[simp] theorem State.setCall_r : (s.setCall v).r = s.r := rfl
@[simp] theorem State.setCall_ill : (s.setCall v).ill = s.ill := rfl
@[simp] theorem State.setCall_segStart : (s.setCall v).segStart = s.segStart := rfl
@[simp] theorem State.setCall_segEnd : (s.setCall v).segEnd = s.segEnd := rfl
@[simp] theorem State.setCall_color0 : (s.setCall v).color0 = s.color0 := rfl
@[simp] theorem State.setCall_color1 : (s.setCall v).color1 = s.color1 := rfl
@[simp] theorem State.setCall_color2 : (s.setCall v).color2 = s.color2 := rfl
@[simp] theorem State.setCall_speed : (s.setCall v).speed = s.speed := rfl
@[simp] theorem State.setCall_intensity : (s.setCall v).intensity = s.intensity := rfl
@[simp] theorem State.setCall_custom1 : (s.setCall v).custom1 = s.custom1 := rfl
@[simp] theorem State.setCall_custom2 : (s.setCall v).custom2 = s.custom2 := rfl
@[simp] theorem State.setCall_custom3 : (s.setCall v).custom3 = s.custom3 := rfl
@[simp] theorem State.setCall_paletteId : (s.setCall v).paletteId = s.paletteId := rfl
@[simp] theorem State.setCall_call : (s.setCall v).call = v := rfl
@[simp] theorem State.setCall_step : (s.setCall v).step = s.step := rfl
@[simp] theorem State.setCall_aux0 : (s.setCall v).aux0 = s.aux0 := rfl
@[simp] theorem State.setCall_aux1 : (s.setCall v).aux1 = s.aux1 := rfl
@[simp] theorem State.setCall_dataLen : (s.setCall v).dataLen = s.dataLen := rfl
@[simp] theorem State.setCall_data : (s.setCall v).data = s.data := rfl
@[simp] theorem State.setCall_pix : (s.setCall v).pix = s.pix := rfl
@[simp] theorem State.setCall_t0 : (s.setCall v).t0 = s.t0 := rfl
@[simp] theorem State.setCall_boots : (s.setCall v).boots = s.boots := rfl
@[simp] theorem State.setCall_cfg : (s.setCall v).cfg = s.cfg := rfl
@[simp] theorem State.setCall_env : (s.setCall v).env = s.env := rfl
end

section
variable (s : State) (v : Word)
@[simp] theorem State.setStep_a : (s.setStep v).a = s.a := rfl
@[simp] theorem State.setStep_b : (s.setStep v).b = s.b := rfl
@[simp] theorem State.setStep_r : (s.setStep v).r = s.r := rfl
@[simp] theorem State.setStep_ill : (s.setStep v).ill = s.ill := rfl
@[simp] theorem State.setStep_segStart : (s.setStep v).segStart = s.segStart := rfl
@[simp] theorem State.setStep_segEnd : (s.setStep v).segEnd = s.segEnd := rfl
@[simp] theorem State.setStep_color0 : (s.setStep v).color0 = s.color0 := rfl
@[simp] theorem State.setStep_color1 : (s.setStep v).color1 = s.color1 := rfl
@[simp] theorem State.setStep_color2 : (s.setStep v).color2 = s.color2 := rfl
@[simp] theorem State.setStep_speed : (s.setStep v).speed = s.speed := rfl
@[simp] theorem State.setStep_intensity : (s.setStep v).intensity = s.intensity := rfl
@[simp] theorem State.setStep_custom1 : (s.setStep v).custom1 = s.custom1 := rfl
@[simp] theorem State.setStep_custom2 : (s.setStep v).custom2 = s.custom2 := rfl
@[simp] theorem State.setStep_custom3 : (s.setStep v).custom3 = s.custom3 := rfl
@[simp] theorem State.setStep_paletteId : (s.setStep v).paletteId = s.paletteId := rfl
@[simp] theorem State.setStep_call : (s.setStep v).call = s.call := rfl
@[simp] theorem State.setStep_step : (s.setStep v).step = v := rfl
@[simp] theorem State.setStep_aux0 : (s.setStep v).aux0 = s.aux0 := rfl
@[simp] theorem State.setStep_aux1 : (s.setStep v).aux1 = s.aux1 := rfl
@[simp] theorem State.setStep_dataLen : (s.setStep v).dataLen = s.dataLen := rfl
@[simp] theorem State.setStep_data : (s.setStep v).data = s.data := rfl
@[simp] theorem State.setStep_pix : (s.setStep v).pix = s.pix := rfl
@[simp] theorem State.setStep_t0 : (s.setStep v).t0 = s.t0 := rfl
@[simp] theorem State.setStep_boots : (s.setStep v).boots = s.boots := rfl
@[simp] theorem State.setStep_cfg : (s.setStep v).cfg = s.cfg := rfl
@[simp] theorem State.setStep_env : (s.setStep v).env = s.env := rfl
end

section
variable (s : State) (v : Word)
@[simp] theorem State.setAux0_a : (s.setAux0 v).a = s.a := rfl
@[simp] theorem State.setAux0_b : (s.setAux0 v).b = s.b := rfl
@[simp] theorem State.setAux0_r : (s.setAux0 v).r = s.r := rfl
@[simp] theorem State.setAux0_ill : (s.setAux0 v).ill = s.ill := rfl
@[simp] theorem State.setAux0_segStart : (s.setAux0 v).segStart = s.segStart := rfl
@[simp] theorem State.setAux0_segEnd : (s.setAux0 v).segEnd = s.segEnd := rfl
@[simp] theorem State.setAux0_color0 : (s.setAux0 v).color0 = s.color0 := rfl
@[simp] theorem State.setAux0_color1 : (s.setAux0 v).color1 = s.color1 := rfl
@[simp] theorem State.setAux0_color2 : (s.setAux0 v).color2 = s.color2 := rfl
@[simp] theorem State.setAux0_speed : (s.setAux0 v).speed = s.speed := rfl
@[simp] theorem State.setAux0_intensity : (s.setAux0 v).intensity = s.intensity := rfl
@[simp] theorem State.setAux0_custom1 : (s.setAux0 v).custom1 = s.custom1 := rfl
@[simp] theorem State.setAux0_custom2 : (s.setAux0 v).custom2 = s.custom2 := rfl
@[simp] theorem State.setAux0_custom3 : (s.setAux0 v).custom3 = s.custom3 := rfl
@[simp] theorem State.setAux0_paletteId : (s.setAux0 v).paletteId = s.paletteId := rfl
@[simp] theorem State.setAux0_call : (s.setAux0 v).call = s.call := rfl
@[simp] theorem State.setAux0_step : (s.setAux0 v).step = s.step := rfl
@[simp] theorem State.setAux0_aux0 : (s.setAux0 v).aux0 = v := rfl
@[simp] theorem State.setAux0_aux1 : (s.setAux0 v).aux1 = s.aux1 := rfl
@[simp] theorem State.setAux0_dataLen : (s.setAux0 v).dataLen = s.dataLen := rfl
@[simp] theorem State.setAux0_data : (s.setAux0 v).data = s.data := rfl
@[simp] theorem State.setAux0_pix : (s.setAux0 v).pix = s.pix := rfl
@[simp] theorem State.setAux0_t0 : (s.setAux0 v).t0 = s.t0 := rfl
@[simp] theorem State.setAux0_boots : (s.setAux0 v).boots = s.boots := rfl
@[simp] theorem State.setAux0_cfg : (s.setAux0 v).cfg = s.cfg := rfl
@[simp] theorem State.setAux0_env : (s.setAux0 v).env = s.env := rfl
end

section
variable (s : State) (v : Word)
@[simp] theorem State.setAux1_a : (s.setAux1 v).a = s.a := rfl
@[simp] theorem State.setAux1_b : (s.setAux1 v).b = s.b := rfl
@[simp] theorem State.setAux1_r : (s.setAux1 v).r = s.r := rfl
@[simp] theorem State.setAux1_ill : (s.setAux1 v).ill = s.ill := rfl
@[simp] theorem State.setAux1_segStart : (s.setAux1 v).segStart = s.segStart := rfl
@[simp] theorem State.setAux1_segEnd : (s.setAux1 v).segEnd = s.segEnd := rfl
@[simp] theorem State.setAux1_color0 : (s.setAux1 v).color0 = s.color0 := rfl
@[simp] theorem State.setAux1_color1 : (s.setAux1 v).color1 = s.color1 := rfl
@[simp] theorem State.setAux1_color2 : (s.setAux1 v).color2 = s.color2 := rfl
@[simp] theorem State.setAux1_speed : (s.setAux1 v).speed = s.speed := rfl
@[simp] theorem State.setAux1_intensity : (s.setAux1 v).intensity = s.intensity := rfl
@[simp] theorem State.setAux1_custom1 : (s.setAux1 v).custom1 = s.custom1 := rfl
@[simp] theorem State.setAux1_custom2 : (s.setAux1 v).custom2 = s.custom2 := rfl
@[simp] theorem State.setAux1_custom3 : (s.setAux1 v).custom3 = s.custom3 := rfl
@[simp] theorem State.setAux1_paletteId : (s.setAux1 v).paletteId = s.paletteId := rfl
@[simp] theorem State.setAux1_call : (s.setAux1 v).call = s.call := rfl
@[simp] theorem State.setAux1_step : (s.setAux1 v).step = s.step := rfl
@[simp] theorem State.setAux1_aux0 : (s.setAux1 v).aux0 = s.aux0 := rfl
@[simp] theorem State.setAux1_aux1 : (s.setAux1 v).aux1 = v := rfl
@[simp] theorem State.setAux1_dataLen : (s.setAux1 v).dataLen = s.dataLen := rfl
@[simp] theorem State.setAux1_data : (s.setAux1 v).data = s.data := rfl
@[simp] theorem State.setAux1_pix : (s.setAux1 v).pix = s.pix := rfl
@[simp] theorem State.setAux1_t0 : (s.setAux1 v).t0 = s.t0 := rfl
@[simp] theorem State.setAux1_boots : (s.setAux1 v).boots = s.boots := rfl
@[simp] theorem State.setAux1_cfg : (s.setAux1 v).cfg = s.cfg := rfl
@[simp] theorem State.setAux1_env : (s.setAux1 v).env = s.env := rfl
end

section
variable (s : State) (v : Half)
@[simp] theorem State.setDataLen_a : (s.setDataLen v).a = s.a := rfl
@[simp] theorem State.setDataLen_b : (s.setDataLen v).b = s.b := rfl
@[simp] theorem State.setDataLen_r : (s.setDataLen v).r = s.r := rfl
@[simp] theorem State.setDataLen_ill : (s.setDataLen v).ill = s.ill := rfl
@[simp] theorem State.setDataLen_segStart : (s.setDataLen v).segStart = s.segStart := rfl
@[simp] theorem State.setDataLen_segEnd : (s.setDataLen v).segEnd = s.segEnd := rfl
@[simp] theorem State.setDataLen_color0 : (s.setDataLen v).color0 = s.color0 := rfl
@[simp] theorem State.setDataLen_color1 : (s.setDataLen v).color1 = s.color1 := rfl
@[simp] theorem State.setDataLen_color2 : (s.setDataLen v).color2 = s.color2 := rfl
@[simp] theorem State.setDataLen_speed : (s.setDataLen v).speed = s.speed := rfl
@[simp] theorem State.setDataLen_intensity : (s.setDataLen v).intensity = s.intensity := rfl
@[simp] theorem State.setDataLen_custom1 : (s.setDataLen v).custom1 = s.custom1 := rfl
@[simp] theorem State.setDataLen_custom2 : (s.setDataLen v).custom2 = s.custom2 := rfl
@[simp] theorem State.setDataLen_custom3 : (s.setDataLen v).custom3 = s.custom3 := rfl
@[simp] theorem State.setDataLen_paletteId : (s.setDataLen v).paletteId = s.paletteId := rfl
@[simp] theorem State.setDataLen_call : (s.setDataLen v).call = s.call := rfl
@[simp] theorem State.setDataLen_step : (s.setDataLen v).step = s.step := rfl
@[simp] theorem State.setDataLen_aux0 : (s.setDataLen v).aux0 = s.aux0 := rfl
@[simp] theorem State.setDataLen_aux1 : (s.setDataLen v).aux1 = s.aux1 := rfl
@[simp] theorem State.setDataLen_dataLen : (s.setDataLen v).dataLen = v := rfl
@[simp] theorem State.setDataLen_data : (s.setDataLen v).data = s.data := rfl
@[simp] theorem State.setDataLen_pix : (s.setDataLen v).pix = s.pix := rfl
@[simp] theorem State.setDataLen_t0 : (s.setDataLen v).t0 = s.t0 := rfl
@[simp] theorem State.setDataLen_boots : (s.setDataLen v).boots = s.boots := rfl
@[simp] theorem State.setDataLen_cfg : (s.setDataLen v).cfg = s.cfg := rfl
@[simp] theorem State.setDataLen_env : (s.setDataLen v).env = s.env := rfl
end

section
variable (s : State) (v : List Host.Cell)
@[simp] theorem State.setData_a : (s.setData v).a = s.a := rfl
@[simp] theorem State.setData_b : (s.setData v).b = s.b := rfl
@[simp] theorem State.setData_r : (s.setData v).r = s.r := rfl
@[simp] theorem State.setData_ill : (s.setData v).ill = s.ill := rfl
@[simp] theorem State.setData_segStart : (s.setData v).segStart = s.segStart := rfl
@[simp] theorem State.setData_segEnd : (s.setData v).segEnd = s.segEnd := rfl
@[simp] theorem State.setData_color0 : (s.setData v).color0 = s.color0 := rfl
@[simp] theorem State.setData_color1 : (s.setData v).color1 = s.color1 := rfl
@[simp] theorem State.setData_color2 : (s.setData v).color2 = s.color2 := rfl
@[simp] theorem State.setData_speed : (s.setData v).speed = s.speed := rfl
@[simp] theorem State.setData_intensity : (s.setData v).intensity = s.intensity := rfl
@[simp] theorem State.setData_custom1 : (s.setData v).custom1 = s.custom1 := rfl
@[simp] theorem State.setData_custom2 : (s.setData v).custom2 = s.custom2 := rfl
@[simp] theorem State.setData_custom3 : (s.setData v).custom3 = s.custom3 := rfl
@[simp] theorem State.setData_paletteId : (s.setData v).paletteId = s.paletteId := rfl
@[simp] theorem State.setData_call : (s.setData v).call = s.call := rfl
@[simp] theorem State.setData_step : (s.setData v).step = s.step := rfl
@[simp] theorem State.setData_aux0 : (s.setData v).aux0 = s.aux0 := rfl
@[simp] theorem State.setData_aux1 : (s.setData v).aux1 = s.aux1 := rfl
@[simp] theorem State.setData_dataLen : (s.setData v).dataLen = s.dataLen := rfl
@[simp] theorem State.setData_data : (s.setData v).data = v := rfl
@[simp] theorem State.setData_pix : (s.setData v).pix = s.pix := rfl
@[simp] theorem State.setData_t0 : (s.setData v).t0 = s.t0 := rfl
@[simp] theorem State.setData_boots : (s.setData v).boots = s.boots := rfl
@[simp] theorem State.setData_cfg : (s.setData v).cfg = s.cfg := rfl
@[simp] theorem State.setData_env : (s.setData v).env = s.env := rfl
end

section
variable (s : State) (v : List (Nat × Color))
@[simp] theorem State.setPix_a : (s.setPix v).a = s.a := rfl
@[simp] theorem State.setPix_b : (s.setPix v).b = s.b := rfl
@[simp] theorem State.setPix_r : (s.setPix v).r = s.r := rfl
@[simp] theorem State.setPix_ill : (s.setPix v).ill = s.ill := rfl
@[simp] theorem State.setPix_segStart : (s.setPix v).segStart = s.segStart := rfl
@[simp] theorem State.setPix_segEnd : (s.setPix v).segEnd = s.segEnd := rfl
@[simp] theorem State.setPix_color0 : (s.setPix v).color0 = s.color0 := rfl
@[simp] theorem State.setPix_color1 : (s.setPix v).color1 = s.color1 := rfl
@[simp] theorem State.setPix_color2 : (s.setPix v).color2 = s.color2 := rfl
@[simp] theorem State.setPix_speed : (s.setPix v).speed = s.speed := rfl
@[simp] theorem State.setPix_intensity : (s.setPix v).intensity = s.intensity := rfl
@[simp] theorem State.setPix_custom1 : (s.setPix v).custom1 = s.custom1 := rfl
@[simp] theorem State.setPix_custom2 : (s.setPix v).custom2 = s.custom2 := rfl
@[simp] theorem State.setPix_custom3 : (s.setPix v).custom3 = s.custom3 := rfl
@[simp] theorem State.setPix_paletteId : (s.setPix v).paletteId = s.paletteId := rfl
@[simp] theorem State.setPix_call : (s.setPix v).call = s.call := rfl
@[simp] theorem State.setPix_step : (s.setPix v).step = s.step := rfl
@[simp] theorem State.setPix_aux0 : (s.setPix v).aux0 = s.aux0 := rfl
@[simp] theorem State.setPix_aux1 : (s.setPix v).aux1 = s.aux1 := rfl
@[simp] theorem State.setPix_dataLen : (s.setPix v).dataLen = s.dataLen := rfl
@[simp] theorem State.setPix_data : (s.setPix v).data = s.data := rfl
@[simp] theorem State.setPix_pix : (s.setPix v).pix = v := rfl
@[simp] theorem State.setPix_t0 : (s.setPix v).t0 = s.t0 := rfl
@[simp] theorem State.setPix_boots : (s.setPix v).boots = s.boots := rfl
@[simp] theorem State.setPix_cfg : (s.setPix v).cfg = s.cfg := rfl
@[simp] theorem State.setPix_env : (s.setPix v).env = s.env := rfl
end

section
variable (s : State) (v : Env)
@[simp] theorem State.setEnv_a : (s.setEnv v).a = s.a := rfl
@[simp] theorem State.setEnv_b : (s.setEnv v).b = s.b := rfl
@[simp] theorem State.setEnv_r : (s.setEnv v).r = s.r := rfl
@[simp] theorem State.setEnv_ill : (s.setEnv v).ill = s.ill := rfl
@[simp] theorem State.setEnv_segStart : (s.setEnv v).segStart = s.segStart := rfl
@[simp] theorem State.setEnv_segEnd : (s.setEnv v).segEnd = s.segEnd := rfl
@[simp] theorem State.setEnv_color0 : (s.setEnv v).color0 = s.color0 := rfl
@[simp] theorem State.setEnv_color1 : (s.setEnv v).color1 = s.color1 := rfl
@[simp] theorem State.setEnv_color2 : (s.setEnv v).color2 = s.color2 := rfl
@[simp] theorem State.setEnv_speed : (s.setEnv v).speed = s.speed := rfl
@[simp] theorem State.setEnv_intensity : (s.setEnv v).intensity = s.intensity := rfl
@[simp] theorem State.setEnv_custom1 : (s.setEnv v).custom1 = s.custom1 := rfl
@[simp] theorem State.setEnv_custom2 : (s.setEnv v).custom2 = s.custom2 := rfl
@[simp] theorem State.setEnv_custom3 : (s.setEnv v).custom3 = s.custom3 := rfl
@[simp] theorem State.setEnv_paletteId : (s.setEnv v).paletteId = s.paletteId := rfl
@[simp] theorem State.setEnv_call : (s.setEnv v).call = s.call := rfl
@[simp] theorem State.setEnv_step : (s.setEnv v).step = s.step := rfl
@[simp] theorem State.setEnv_aux0 : (s.setEnv v).aux0 = s.aux0 := rfl
@[simp] theorem State.setEnv_aux1 : (s.setEnv v).aux1 = s.aux1 := rfl
@[simp] theorem State.setEnv_dataLen : (s.setEnv v).dataLen = s.dataLen := rfl
@[simp] theorem State.setEnv_data : (s.setEnv v).data = s.data := rfl
@[simp] theorem State.setEnv_pix : (s.setEnv v).pix = s.pix := rfl
@[simp] theorem State.setEnv_t0 : (s.setEnv v).t0 = s.t0 := rfl
@[simp] theorem State.setEnv_boots : (s.setEnv v).boots = s.boots := rfl
@[simp] theorem State.setEnv_cfg : (s.setEnv v).cfg = s.cfg := rfl
@[simp] theorem State.setEnv_env : (s.setEnv v).env = v := rfl
end

/-! Writing back what a field holds changes nothing, and the later of two updates stands. -/

@[simp] theorem State.setA_self (s : State) : s.setA s.a = s := rfl
@[simp] theorem State.setA_setA (s : State) (v w : Word) :
    (s.setA v).setA w = s.setA w := rfl
@[simp] theorem State.setB_self (s : State) : s.setB s.b = s := rfl
@[simp] theorem State.setB_setB (s : State) (v w : Word) :
    (s.setB v).setB w = s.setB w := rfl
@[simp] theorem State.setR_self (s : State) : s.setR s.r = s := rfl
@[simp] theorem State.setR_setR (s : State) (v w : Word) :
    (s.setR v).setR w = s.setR w := rfl
@[simp] theorem State.setIll_self (s : State) : s.setIll s.ill = s := rfl
@[simp] theorem State.setIll_setIll (s : State) (v w : Bool) :
    (s.setIll v).setIll w = s.setIll w := rfl
@[simp] theorem State.setSegStart_self (s : State) : s.setSegStart s.segStart = s := rfl
@[simp] theorem State.setSegStart_setSegStart (s : State) (v w : Half) :
    (s.setSegStart v).setSegStart w = s.setSegStart w := rfl
@[simp] theorem State.setSegEnd_self (s : State) : s.setSegEnd s.segEnd = s := rfl
@[simp] theorem State.setSegEnd_setSegEnd (s : State) (v w : Half) :
    (s.setSegEnd v).setSegEnd w = s.setSegEnd w := rfl
@[simp] theorem State.setColor0_self (s : State) : s.setColor0 s.color0 = s := rfl
@[simp] theorem State.setColor0_setColor0 (s : State) (v w : Color) :
    (s.setColor0 v).setColor0 w = s.setColor0 w := rfl
@[simp] theorem State.setColor1_self (s : State) : s.setColor1 s.color1 = s := rfl
@[simp] theorem State.setColor1_setColor1 (s : State) (v w : Color) :
    (s.setColor1 v).setColor1 w = s.setColor1 w := rfl
@[simp] theorem State.setColor2_self (s : State) : s.setColor2 s.color2 = s := rfl
@[simp] theorem State.setColor2_setColor2 (s : State) (v w : Color) :
    (s.setColor2 v).setColor2 w = s.setColor2 w := rfl
@[simp] theorem State.setSpeed_self (s : State) : s.setSpeed s.speed = s := rfl
@[simp] theorem State.setSpeed_setSpeed (s : State) (v w : Byte) :
    (s.setSpeed v).setSpeed w = s.setSpeed w := rfl
@[simp] theorem State.setIntensity_self (s : State) : s.setIntensity s.intensity = s := rfl
@[simp] theorem State.setIntensity_setIntensity (s : State) (v w : Byte) :
    (s.setIntensity v).setIntensity w = s.setIntensity w := rfl
@[simp] theorem State.setCustom1_self (s : State) : s.setCustom1 s.custom1 = s := rfl
@[simp] theorem State.setCustom1_setCustom1 (s : State) (v w : Byte) :
    (s.setCustom1 v).setCustom1 w = s.setCustom1 w := rfl
@[simp] theorem State.setCustom2_self (s : State) : s.setCustom2 s.custom2 = s := rfl
@[simp] theorem State.setCustom2_setCustom2 (s : State) (v w : Byte) :
    (s.setCustom2 v).setCustom2 w = s.setCustom2 w := rfl
@[simp] theorem State.setCustom3_self (s : State) : s.setCustom3 s.custom3 = s := rfl
@[simp] theorem State.setCustom3_setCustom3 (s : State) (v w : Byte) :
    (s.setCustom3 v).setCustom3 w = s.setCustom3 w := rfl
@[simp] theorem State.setPaletteId_self (s : State) : s.setPaletteId s.paletteId = s := rfl
@[simp] theorem State.setPaletteId_setPaletteId (s : State) (v w : Byte) :
    (s.setPaletteId v).setPaletteId w = s.setPaletteId w := rfl
@[simp] theorem State.setCall_self (s : State) : s.setCall s.call = s := rfl
@[simp] theorem State.setCall_setCall (s : State) (v w : Word) :
    (s.setCall v).setCall w = s.setCall w := rfl
@[simp] theorem State.setStep_self (s : State) : s.setStep s.step = s := rfl
@[simp] theorem State.setStep_setStep (s : State) (v w : Word) :
    (s.setStep v).setStep w = s.setStep w := rfl
@[simp] theorem State.setAux0_self (s : State) : s.setAux0 s.aux0 = s := rfl
@[simp] theorem State.setAux0_setAux0 (s : State) (v w : Word) :
    (s.setAux0 v).setAux0 w = s.setAux0 w := rfl
@[simp] theorem State.setAux1_self (s : State) : s.setAux1 s.aux1 = s := rfl
@[simp] theorem State.setAux1_setAux1 (s : State) (v w : Word) :
    (s.setAux1 v).setAux1 w = s.setAux1 w := rfl
@[simp] theorem State.setDataLen_self (s : State) : s.setDataLen s.dataLen = s := rfl
@[simp] theorem State.setDataLen_setDataLen (s : State) (v w : Half) :
    (s.setDataLen v).setDataLen w = s.setDataLen w := rfl
@[simp] theorem State.setData_self (s : State) : s.setData s.data = s := rfl
@[simp] theorem State.setData_setData (s : State) (v w : List Host.Cell) :
    (s.setData v).setData w = s.setData w := rfl
@[simp] theorem State.setPix_self (s : State) : s.setPix s.pix = s := rfl
@[simp] theorem State.setPix_setPix (s : State) (v w : List (Nat × Color)) :
    (s.setPix v).setPix w = s.setPix w := rfl
@[simp] theorem State.setEnv_self (s : State) : s.setEnv s.env = s := rfl
@[simp] theorem State.setEnv_setEnv (s : State) (v w : Env) :
    (s.setEnv v).setEnv w = s.setEnv w := rfl

end Sys2Proof.Machine
end

