-- ==== Sys2Proof/Laws/Memory.lean ====
section
/-! SUPPORT. What the memory operations do: read after write, every other element unchanged, and the
canonical form kept. -/

namespace Sys2Proof.Machine

variable {w : Nat}

theorem Memory.rising_cons (p : Nat × BitVec w) (m : List (Nat × BitVec w)) :
    Memory.rising (p :: m) = true ↔ (∀ c ∈ m, p.1 < c.1) ∧ Memory.rising m = true := by
  induction m generalizing p with
  | nil => simp [Memory.rising]
  | cons q m ih =>
    simp only [Memory.rising, Bool.and_eq_true, decide_eq_true_eq, List.mem_cons, forall_eq_or_imp]
    constructor
    · rintro ⟨h, hm⟩
      exact ⟨⟨h, fun c hc => lt_trans h (((ih q).1 hm).1 c hc)⟩, hm⟩
    · rintro ⟨⟨h, -⟩, hm⟩
      exact ⟨h, hm⟩

theorem Memory.find_insert (m : List (Nat × BitVec w)) (a b : Nat) (x : BitVec w) :
    Memory.find (Memory.insert m a x) b = if b = a then some x else Memory.find m b := by
  induction m with
  | nil => simp [Memory.insert, Memory.find]
  | cons p m ih =>
    obtain ⟨k, v⟩ := p
    by_cases h1 : a < k
    · simp [Memory.insert, Memory.find, h1]
    · by_cases h2 : a = k
      · subst h2
        by_cases h3 : b = a <;> simp [Memory.insert, Memory.find, h3]
      · by_cases h3 : b = k
        · subst h3
          simp [Memory.insert, Memory.find, h1, h2, Ne.symm h2]
        · simp [Memory.insert, Memory.find, h1, h2, h3, ih]

theorem Memory.find_none_of_lt (m : List (Nat × BitVec w)) (a : Nat) (h : ∀ c ∈ m, a < c.1) :
    Memory.find m a = none := by
  induction m with
  | nil => rfl
  | cons p m ih =>
    have hp := h p (by simp)
    simp only [Memory.find, if_neg (Nat.ne_of_lt hp)]
    exact ih fun c hc => h c (by simp [hc])

theorem Memory.find_erase (m : List (Nat × BitVec w)) (a b : Nat) (h : Memory.rising m = true) :
    Memory.find (Memory.erase m a) b = if b = a then none else Memory.find m b := by
  induction m with
  | nil => simp [Memory.erase, Memory.find]
  | cons p m ih =>
    obtain ⟨k, v⟩ := p
    obtain ⟨hlt, hm⟩ := (Memory.rising_cons _ _).1 h
    by_cases h2 : a = k
    · subst h2
      by_cases h3 : b = a
      · subst h3
        simp [Memory.erase, Memory.find_none_of_lt m b hlt]
      · simp [Memory.erase, Memory.find, h3]
    · by_cases h3 : b = k
      · subst h3
        simp [Memory.erase, Memory.find, h2, Ne.symm h2]
      · simp [Memory.erase, Memory.find, h2, h3, ih hm]

theorem Memory.mem_insert {m : List (Nat × BitVec w)} {a : Nat} {x : BitVec w} {c : Nat × BitVec w}
    (h : c ∈ Memory.insert m a x) : c = (a, x) ∨ c ∈ m := by
  induction m with
  | nil => exact .inl (by simpa [Memory.insert] using h)
  | cons p m ih =>
    obtain ⟨k, v⟩ := p
    simp only [Memory.insert] at h
    split at h
    · simpa using h
    · split at h
      · rcases List.mem_cons.1 h with h | h
        · exact .inl h
        · exact .inr (List.mem_cons_of_mem _ h)
      · rcases List.mem_cons.1 h with h | h
        · exact .inr (by simp [h])
        · exact (ih h).imp id (List.mem_cons_of_mem _)

theorem Memory.mem_erase {m : List (Nat × BitVec w)} {a : Nat} {c : Nat × BitVec w}
    (h : c ∈ Memory.erase m a) : c ∈ m := by
  induction m with
  | nil => simp [Memory.erase] at h
  | cons p m ih =>
    obtain ⟨k, v⟩ := p
    simp only [Memory.erase] at h
    split at h
    · exact List.mem_cons_of_mem _ h
    · rcases List.mem_cons.1 h with h | h
      · simp [h]
      · exact List.mem_cons_of_mem _ (ih h)

theorem Memory.rising_insert (m : List (Nat × BitVec w)) (a : Nat) (x : BitVec w)
    (h : Memory.rising m = true) : Memory.rising (Memory.insert m a x) = true := by
  induction m with
  | nil => rfl
  | cons p m ih =>
    obtain ⟨k, v⟩ := p
    obtain ⟨hlt, hm⟩ := (Memory.rising_cons _ _).1 h
    simp only [Memory.insert]
    split
    · rename_i h1
      refine (Memory.rising_cons _ _).2 ⟨fun c hc => ?_, h⟩
      rcases List.mem_cons.1 hc with rfl | hc
      · exact h1
      · exact lt_trans h1 (hlt c hc)
    · split
      · rename_i h1 h2
        subst h2
        exact (Memory.rising_cons _ _).2 ⟨hlt, hm⟩
      · rename_i h1 h2
        refine (Memory.rising_cons _ _).2 ⟨fun c hc => ?_, ih hm⟩
        rcases Memory.mem_insert hc with rfl | hc
        · show k < a
          omega
        · exact hlt c hc

theorem Memory.rising_erase (m : List (Nat × BitVec w)) (a : Nat) (h : Memory.rising m = true) :
    Memory.rising (Memory.erase m a) = true := by
  induction m with
  | nil => rfl
  | cons p m ih =>
    obtain ⟨k, v⟩ := p
    obtain ⟨hlt, hm⟩ := (Memory.rising_cons _ _).1 h
    simp only [Memory.erase]
    split
    · exact hm
    · exact (Memory.rising_cons _ _).2 ⟨fun c hc => hlt c (Memory.mem_erase hc), ih hm⟩

/-- The canonical form, said as propositions. -/
theorem Memory.wf_iff (limit : Nat) (u : Option (BitVec w)) (m : List (Nat × BitVec w)) :
    Memory.wf limit u m = true ↔
      Memory.rising m = true ∧ ∀ c ∈ m, c.1 < limit ∧ some c.2 ≠ u := by
  simp [Memory.wf, List.all_eq_true]

/-- A write below the memory's size keeps the canonical form. -/
theorem Memory.write_wf (limit : Nat) (u : Option (BitVec w)) (m : List (Nat × BitVec w)) (a : Nat)
    (x : BitVec w) (ha : a < limit) (h : Memory.wf limit u m = true) :
    Memory.wf limit u (Memory.write u m a x) = true := by
  rw [Memory.wf_iff] at h ⊢
  unfold Memory.write
  split
  · exact ⟨Memory.rising_erase m a h.1, fun c hc => h.2 c (Memory.mem_erase hc)⟩
  · rename_i hx
    refine ⟨Memory.rising_insert m a x h.1, fun c hc => ?_⟩
    rcases Memory.mem_insert hc with rfl | hc
    · exact ⟨ha, hx⟩
    · exact h.2 c hc

/-- Reading after a write, where no value is fixed for an unlisted element. -/
theorem Memory.find_write_none (m : List (Nat × BitVec w)) (a b : Nat) (x : BitVec w) :
    Memory.find (Memory.write none m a x) b = if b = a then some x else Memory.find m b := by
  simp [Memory.write, Memory.find_insert]

/-- Reading after a write, where an unlisted element reads as `z`. -/
theorem Memory.find_write_some (z : BitVec w) (m : List (Nat × BitVec w)) (a b : Nat) (x : BitVec w)
    (h : Memory.rising m = true) :
    (Memory.find (Memory.write (some z) m a x) b).getD z =
      if b = a then x else (Memory.find m b).getD z := by
  unfold Memory.write
  split
  · rename_i hx
    rw [Memory.find_erase m a b h]
    by_cases hb : b = a
    · simpa [hb] using (Option.some.inj hx).symm
    · simp [hb]
  · rw [Memory.find_insert]
    by_cases hb : b = a <;> simp [hb]

/-- PIX: the element written reads back, every other one is unchanged (R53, R61). -/
theorem pixRead_pixWrite (k j : Nat) (c : Color) (s : State) :
    pixRead j (pixWrite k c s) = if j = k then c else pixRead j s := by
  have h := Memory.find_write_none s.pix k j c
  by_cases hj : j = k <;> simp_all [pixRead, pixWrite, pixUnlisted]

/-- DATA: the byte written reads back, every other one is unchanged (R54, R61). -/
theorem dataRead_dataWrite (k j : Nat) (v : Byte) (s : State) (h : Memory.rising s.data = true) :
    dataRead j (dataWrite k v s) = if j = k then v else dataRead j s :=
  Memory.find_write_some 0 s.data k j v h

theorem pixWrite_wf (k : Nat) (c : Color) (s : State) (hk : k < s.cfg.numLeds)
    (h : Memory.wf s.cfg.numLeds pixUnlisted s.pix = true) :
    Memory.wf s.cfg.numLeds pixUnlisted (pixWrite k c s).pix = true :=
  Memory.write_wf _ _ _ _ _ hk h

theorem dataWrite_wf (k : Nat) (v : Byte) (s : State) (hk : k < s.cfg.dataCap)
    (h : Memory.wf s.cfg.dataCap dataUnlisted s.data = true) :
    Memory.wf s.cfg.dataCap dataUnlisted (dataWrite k v s).data = true :=
  Memory.write_wf _ _ _ _ _ hk h

theorem dataWrite_rising (k : Nat) (v : Byte) (s : State) (h : Memory.rising s.data = true) :
    Memory.rising (dataWrite k v s).data = true := by
  show Memory.rising (Memory.write dataUnlisted s.data k v) = true
  unfold Memory.write
  split
  · exact Memory.rising_erase _ _ h
  · exact Memory.rising_insert _ _ _ h

/-- `State.reset` has the canonical form: it lists nothing. -/
theorem reset_memory_wf :
    Memory.wf State.reset.cfg.numLeds pixUnlisted State.reset.pix = true ∧
      Memory.wf State.reset.cfg.dataCap dataUnlisted State.reset.data = true :=
  ⟨rfl, rfl⟩

end Sys2Proof.Machine
end

