-- ==== Sys2Proof/Laws/Ops.lean ====
section
/-! SUPPORT. What each shared operation can do, said once: the base-and-bound rule, segment reads and
writes, loops that paint the segment, random draws, the passing of time, the host port. -/

namespace Sys2Proof.Machine

/-! ### Loops -/

@[simp] theorem forUpTo_zero {α : Type} (f : Nat → α → α) (x : α) : forUpTo 0 f x = x := rfl

@[simp] theorem forUpTo_succ {α : Type} (n : Nat) (f : Nat → α → α) (x : α) :
    forUpTo (n + 1) f x = f n (forUpTo n f x) := rfl

/-- What holds before a loop and is kept by each of its rounds holds after it. -/
theorem forUpTo_keeps {α : Type} (P : α → Prop) (n : Nat) (f : Nat → α → α) (x : α) (h0 : P x)
    (hs : ∀ i < n, ∀ y, P y → P (f i y)) : P (forUpTo n f x) := by
  induction n with
  | zero => exact h0
  | succ n ih => exact hs n (Nat.lt_succ_self n) _ (ih fun i hi => hs i (Nat.lt_succ_of_lt hi))

/-- Two loops whose rounds agree on every state agree. -/
theorem forUpTo_congr {α : Type} (n : Nat) (f g : Nat → α → α) (x : α)
    (h : ∀ i < n, ∀ y, f i y = g i y) : forUpTo n f x = forUpTo n g x := by
  induction n with
  | zero => rfl
  | succ n ih =>
    rw [forUpTo_succ, forUpTo_succ, ih fun i hi => h i (Nat.lt_succ_of_lt hi),
      h n (Nat.lt_succ_self n)]

/-! ### States that differ in PIX alone -/

/-- `t` is `s` but for what PIX holds. -/
def SamePixApart (s t : State) : Prop := t = s.setPix t.pix

theorem SamePixApart.refl (s : State) : SamePixApart s s := rfl

theorem SamePixApart.trans {s t u : State} (h : SamePixApart s t) (h' : SamePixApart t u) :
    SamePixApart s u := by
  unfold SamePixApart at *
  rw [h'.trans (congrArg (fun x : State => x.setPix u.pix) h)]
  rfl

theorem SamePixApart.len {s t : State} (h : SamePixApart s t) : t.len = s.len := by rw [h]; rfl

/-! ### The base-and-bound rule and segment accesses (R60, R140, R141) -/

/-- Where an access goes, and when it is dropped (R60). -/
theorem segIndex_eq_some (i : Int) (s : State) (k : Nat) :
    segIndex i s = some k ↔
      0 ≤ i ∧ i < s.len ∧ s.segStart.toNat + i.toNat < s.cfg.numLeds ∧
        k = s.segStart.toNat + i.toNat := by
  unfold segIndex
  split <;> rename_i h
  · simp only [Option.some.injEq]
    exact ⟨fun e => ⟨h.1, h.2.1, h.2.2, e.symm⟩, fun e => e.2.2.2.symm⟩
  · simp only [reduceCtorEq, false_iff]
    exact fun e => h ⟨e.1, e.2.1, e.2.2.1⟩

/-- An accepted access is inside the segment and inside PIX. -/
theorem segIndex_bounds {i : Int} {s : State} {k : Nat} (h : segIndex i s = some k) :
    s.segStart.toNat ≤ k ∧ k < s.segEnd.toNat ∧ k < s.cfg.numLeds := by
  obtain ⟨h0, h1, h2, rfl⟩ := (segIndex_eq_some i s k).1 h
  unfold State.len at h1
  omega

@[simp] theorem segIndex_setPix (i : Int) (s : State) (m : List (Nat × Color)) :
    segIndex i (s.setPix m) = segIndex i s := rfl

/-- `SegSet` writes one element or does nothing (R141). -/
theorem segSet_cases (i : Int) (c : Color) (s : State) :
    (∃ k, segIndex i s = some k ∧ segSet i c s = pixWrite k c s) ∨
      (segIndex i s = none ∧ segSet i c s = s) := by
  cases h : segIndex i s with
  | none => exact .inr ⟨rfl, by simp [segSet, h]⟩
  | some k => exact .inl ⟨k, rfl, by simp [segSet, h, pixWrite]⟩

theorem segSet_samePixApart (i : Int) (c : Color) (s : State) : SamePixApart s (segSet i c s) := rfl

/-- What PIX holds after `SegSet` (R141). -/
theorem pixRead_segSet (i : Int) (c : Color) (s : State) (k : Nat) :
    pixRead k (segSet i c s) = if segIndex i s = some k then c else pixRead k s := by
  rcases segSet_cases i c s with ⟨j, hj, e⟩ | ⟨hn, e⟩
  · rw [e, pixRead_pixWrite, hj]
    by_cases h : k = j
    · simp [h]
    · simp [h, Ne.symm h]
  · simp [e, hn]

/-- `SegSet` keeps PIX in its canonical form. -/
theorem segSet_pix_wf (i : Int) (c : Color) (s : State)
    (h : Memory.wf s.cfg.numLeds pixUnlisted s.pix = true) :
    Memory.wf s.cfg.numLeds pixUnlisted (segSet i c s).pix = true := by
  rcases segSet_cases i c s with ⟨k, hk, e⟩ | ⟨-, e⟩
  · rw [e]
    exact pixWrite_wf k c s (segIndex_bounds hk).2.2 h
  · rw [e]
    exact h

/-- `SegGet` of an index inside the segment and PIX (R140). -/
theorem segGet_of_lt (i : Nat) (s : State) (h : i < s.len)
    (hk : s.segStart.toNat + i < s.cfg.numLeds) :
    segGet i s = pixRead (s.segStart.toNat + i) s := by
  have : segIndex (i : Int) s = some (s.segStart.toNat + i) :=
    (segIndex_eq_some _ _ _).2 ⟨by omega, by omega, by simpa using hk, by simp⟩
  simp [segGet, this]

/-! ### Loops over `SegSet` -/

/-- A loop whose rounds are `SegSet`s changes PIX alone. -/
theorem forUpTo_segSet_samePixApart (n : Nat) (ix : Nat → Int) (c : Nat → State → Color)
    (s : State) : SamePixApart s (forUpTo n (fun i u => segSet (ix i) (c i u) u) s) :=
  forUpTo_keeps (SamePixApart s) n _ s (SamePixApart.refl s)
    fun i _ u hu => hu.trans (segSet_samePixApart (ix i) (c i u) u)

/-- A loop whose rounds are `SegSet`s keeps PIX in its canonical form. -/
theorem forUpTo_segSet_pix_wf (n : Nat) (ix : Nat → Int) (c : Nat → State → Color) (s : State)
    (h : Memory.wf s.cfg.numLeds pixUnlisted s.pix = true) :
    Memory.wf s.cfg.numLeds pixUnlisted
      (forUpTo n (fun i u => segSet (ix i) (c i u) u) s).pix = true := by
  have hk := forUpTo_keeps
    (fun u => SamePixApart s u ∧ Memory.wf u.cfg.numLeds pixUnlisted u.pix = true) n
    (fun i u => segSet (ix i) (c i u) u) s ⟨SamePixApart.refl s, h⟩
    fun i _ u hu => ⟨hu.1.trans (segSet_samePixApart _ _ _), segSet_pix_wf _ _ _ hu.2⟩
  have hc : (forUpTo n (fun i u => segSet (ix i) (c i u) u) s).cfg = s.cfg := by rw [hk.1]; rfl
  rw [hc] at hk
  exact hk.2

/-- What PIX holds after the first `n` rounds of a loop over the segment whose colour for pixel `i`
depends on `i` and on what that pixel held. -/
theorem pixRead_forUpTo_segSet (n : Nat) (g : Nat → Color → Color) (s : State) (hn : n ≤ s.len)
    (k : Nat) :
    pixRead k (forUpTo n (fun i u => segSet (i : Int) (g i (segGet (i : Int) u)) u) s) =
      if s.segStart.toNat ≤ k ∧ k < s.segStart.toNat + n ∧ k < s.cfg.numLeds then
        g (k - s.segStart.toNat) (pixRead k s)
      else pixRead k s := by
  induction n generalizing k with
  | zero => simp; omega
  | succ n ih =>
    have hsame := forUpTo_segSet_samePixApart n (fun i => (i : Int))
      (fun i u => g i (segGet (i : Int) u)) s
    set u := forUpTo n (fun i u => segSet (i : Int) (g i (segGet (i : Int) u)) u) s with hu
    have hix : segIndex (n : Int) u = segIndex (n : Int) s := by rw [hsame]; rfl
    rw [forUpTo_succ, ← hu, pixRead_segSet, hix]
    by_cases hk : segIndex (n : Int) s = some k
    · obtain ⟨-, h1, h2, h3⟩ := (segIndex_eq_some _ _ _).1 hk
      simp only [Int.toNat_natCast] at h2 h3
      rw [if_pos hk, if_pos (by omega)]
      have hget : segGet (n : Int) u = pixRead k u := by
        simp [segGet, hix, hk]
      rw [hget, ih (by omega), if_neg (by omega)]
      congr 1
      omega
    · rw [if_neg hk, ih (by omega)]
      have hne : ¬(k = s.segStart.toNat + n ∧ k < s.cfg.numLeds) := fun h =>
        hk ((segIndex_eq_some _ _ _).2
          ⟨by omega, by omega, by simpa [← h.1] using h.2, by simpa using h.1⟩)
      by_cases hc : s.segStart.toNat ≤ k ∧ k < s.segStart.toNat + n ∧ k < s.cfg.numLeds
      · rw [if_pos hc, if_pos (by omega)]
      · rw [if_neg hc, if_neg (by omega)]

/-- What PIX holds after a loop of segment writes in which the colour of a pixel depends on its own
index alone, whatever the order and however often an index occurs. -/
theorem pixRead_forUpTo_segSet_at (n : Nat) (ix : Nat → Int) (col : Int → Color) (s : State)
    (k : Nat) :
    pixRead k (forUpTo n (fun i u => segSet (ix i) (col (ix i)) u) s) =
      if ∃ i < n, segIndex (ix i) s = some k then
        col ((k : Int) - (s.segStart.toNat : Int))
      else pixRead k s := by
  induction n with
  | zero => simp
  | succ n ih =>
    have hsame := forUpTo_segSet_samePixApart n ix (fun i _ => col (ix i)) s
    set u := forUpTo n (fun i u => segSet (ix i) (col (ix i)) u) s with hu
    have hix : segIndex (ix n) u = segIndex (ix n) s := by rw [hsame]; rfl
    rw [forUpTo_succ, ← hu, pixRead_segSet, hix, ih]
    by_cases hk : segIndex (ix n) s = some k
    · rw [if_pos hk, if_pos ⟨n, Nat.lt_succ_self n, hk⟩]
      obtain ⟨h0, -, -, h3⟩ := (segIndex_eq_some _ _ _).1 hk
      congr 1
      omega
    · rw [if_neg hk]
      by_cases hc : ∃ i < n, segIndex (ix i) s = some k
      · obtain ⟨i, hi, e⟩ := hc
        rw [if_pos ⟨i, hi, e⟩, if_pos ⟨i, Nat.lt_succ_of_lt hi, e⟩]
      · rw [if_neg hc, if_neg]
        rintro ⟨i, hi, e⟩
        rcases Nat.lt_succ_iff_lt_or_eq.1 hi with h | rfl
        · exact hc ⟨i, h, e⟩
        · exact hk e

/-- `paint` changes PIX alone. -/
theorem paint_samePixApart (f : Nat → Color) (s : State) : SamePixApart s (paint f s) :=
  forUpTo_segSet_samePixApart s.len (fun i => (i : Int)) (fun i _ => f i) s

/-- What PIX holds after `paint`. -/
theorem pixRead_paint (f : Nat → Color) (s : State) (k : Nat) :
    pixRead k (paint f s) =
      if s.segStart.toNat ≤ k ∧ k < s.segEnd.toNat ∧ k < s.cfg.numLeds then
        f (k - s.segStart.toNat)
      else pixRead k s := by
  have h := pixRead_forUpTo_segSet s.len (fun i _ => f i) s (le_refl _) k
  rw [paint, h]
  have hl : s.len = s.segEnd.toNat - s.segStart.toNat := rfl
  by_cases hc : s.segStart.toNat ≤ k ∧ k < s.segEnd.toNat ∧ k < s.cfg.numLeds
  · rw [if_pos hc, if_pos (by omega)]
  · rw [if_neg hc, if_neg (by omega)]

theorem paint_pix_wf (f : Nat → Color) (s : State)
    (h : Memory.wf s.cfg.numLeds pixUnlisted s.pix = true) :
    Memory.wf s.cfg.numLeds pixUnlisted (paint f s).pix = true :=
  forUpTo_segSet_pix_wf s.len (fun i => (i : Int)) (fun i _ => f i) s h

/-! ### The clock and the random source -/

/-- A draw is in `[0, n)` (R17). -/
theorem rand_lt (n : Nat) (s : State) (h : 0 < n) : rand n s < n := Nat.mod_lt _ h

/-- The clock never runs back (R207). -/
theorem letTimePass_clk (s : State) : s.env.clk ≤ (letTimePass s).env.clk := Nat.le_add_right _ _

/-- Taking an event changes the model's own fields alone. -/
theorem accept_eq (s : State) : accept s = s.setEnv (accept s).env := rfl

/-- A draw changes the model's own fields alone. -/
theorem afterDraw_eq (s : State) : afterDraw s = s.setEnv (afterDraw s).env := rfl

/-! ### The host port (R52 to R55) -/

/-- Where a host write goes. -/
theorem hostWrite_cases (addr : Half) (d : Word) (s : State) :
    (∃ k, pixWindow addr s.cfg = some k ∧ hostWrite addr d s = pixWrite k d s) ∨
      (∃ k, pixWindow addr s.cfg = none ∧ dataWindow addr s.cfg = some k ∧
        hostWrite addr d s = dataWrite k (d.setWidth 8) s) ∨
      (pixWindow addr s.cfg = none ∧ dataWindow addr s.cfg = none ∧
        hostWrite addr d s = regWrite addr d s) := by
  unfold hostWrite
  cases h : pixWindow addr s.cfg with
  | some k => exact .inl ⟨k, rfl, rfl⟩
  | none =>
    cases h' : dataWindow addr s.cfg with
    | some k => exact .inr (.inl ⟨k, rfl, rfl, rfl⟩)
    | none => exact .inr (.inr ⟨rfl, rfl, rfl⟩)

/-- The PIX window (R53). -/
theorem pixWindow_eq_some (addr : Half) (c : Config) (k : Nat) :
    pixWindow addr c = some k ↔ addr.toNat = 0x8000 + k ∧ k < c.numLeds := by
  unfold pixWindow
  split <;> simp <;> omega

/-- The DATA window (R54). -/
theorem dataWindow_eq_some (addr : Half) (c : Config) (k : Nat) :
    dataWindow addr c = some k ↔ addr.toNat = 0x4000 + k ∧ addr.toNat < 0x8000 ∧ k < c.dataCap := by
  unfold dataWindow
  split <;> simp <;> omega

end Sys2Proof.Machine
end

