-- ==== Sys2Proof/Laws/PerInstr.lean ====
section
/-! SUPPORT. Statements about every command as syntax, one lemma per constructor. -/

namespace Sys2Proof.Laws

/-- "`f[1]` is zero in every command" (R71). -/
def FlagOneZero.Statement (i : Instr) : Prop := (encodeFields i).f.getLsbD 1 = false

theorem flagClear : (0 : BitVec 2).getLsbD 1 = false := by decide

theorem flagSet : (1 : BitVec 2).getLsbD 1 = false := by decide

theorem FlagOneZero.blend (amount : Byte) : FlagOneZero.Statement (.blend amount) :=
  flagClear
theorem FlagOneZero.add : FlagOneZero.Statement (.add) :=
  flagClear
theorem FlagOneZero.addP : FlagOneZero.Statement (.addP) :=
  flagSet
theorem FlagOneZero.fade (amount : Byte) : FlagOneZero.Statement (.fade amount) :=
  flagClear
theorem FlagOneZero.fadeV (amount : Byte) : FlagOneZero.Statement (.fadeV amount) :=
  flagSet
theorem FlagOneZero.wheel (pos : Byte) : FlagOneZero.Statement (.wheel pos) :=
  flagClear
theorem FlagOneZero.hsv2rgb : FlagOneZero.Statement (.hsv2rgb) :=
  flagClear
theorem FlagOneZero.rgb2hsv : FlagOneZero.Statement (.rgb2hsv) :=
  flagClear
theorem FlagOneZero.sin8 (x : Byte) : FlagOneZero.Statement (.sin8 x) :=
  flagClear
theorem FlagOneZero.sin16 (x : Half) : FlagOneZero.Statement (.sin16 x) :=
  flagClear
theorem FlagOneZero.tri16 (x : Half) : FlagOneZero.Statement (.tri16 x) :=
  flagClear
theorem FlagOneZero.palcolor (pid pos bri : Byte) : FlagOneZero.Statement (.palcolor pid pos bri) :=
  flagClear
theorem FlagOneZero.getpix (i : Half) : FlagOneZero.Statement (.getpix i) :=
  flagClear
theorem FlagOneZero.setpix (i : Half) : FlagOneZero.Statement (.setpix i) :=
  flagClear
theorem FlagOneZero.fill : FlagOneZero.Statement (.fill) :=
  flagClear
theorem FlagOneZero.fadeout (amount : Byte) : FlagOneZero.Statement (.fadeout amount) :=
  flagClear
theorem FlagOneZero.blur (amount : Byte) : FlagOneZero.Statement (.blur amount) :=
  flagClear
theorem FlagOneZero.now : FlagOneZero.Statement (.now) :=
  flagClear
theorem FlagOneZero.segpal (i : Half) (bri : Byte) : FlagOneZero.Statement (.segpal i bri) :=
  flagClear
theorem FlagOneZero.segpalI (i : Half) (bri : Byte) : FlagOneZero.Statement (.segpalI i bri) :=
  flagSet
theorem FlagOneZero.getcolor (i : Half) : FlagOneZero.Statement (.getcolor i) :=
  flagClear
theorem FlagOneZero.reset : FlagOneZero.Statement (.reset) :=
  flagClear
theorem FlagOneZero.fxStatic : FlagOneZero.Statement (.fxStatic) :=
  flagClear
theorem FlagOneZero.fxBlink : FlagOneZero.Statement (.fxBlink) :=
  flagClear
theorem FlagOneZero.fxStrobe : FlagOneZero.Statement (.fxStrobe) :=
  flagClear
theorem FlagOneZero.fxBreathe : FlagOneZero.Statement (.fxBreathe) :=
  flagClear
theorem FlagOneZero.fxFade : FlagOneZero.Statement (.fxFade) :=
  flagClear
theorem FlagOneZero.fxScan : FlagOneZero.Statement (.fxScan) :=
  flagClear
theorem FlagOneZero.fxDualScan : FlagOneZero.Statement (.fxDualScan) :=
  flagClear
theorem FlagOneZero.fxRainbow : FlagOneZero.Statement (.fxRainbow) :=
  flagClear
theorem FlagOneZero.fxRainbowCycle : FlagOneZero.Statement (.fxRainbowCycle) :=
  flagClear
theorem FlagOneZero.fxTheater : FlagOneZero.Statement (.fxTheater) :=
  flagClear
theorem FlagOneZero.fxRunning : FlagOneZero.Statement (.fxRunning) :=
  flagClear
theorem FlagOneZero.fxWipe : FlagOneZero.Statement (.fxWipe) :=
  flagClear
theorem FlagOneZero.fxRandomColor : FlagOneZero.Statement (.fxRandomColor) :=
  flagClear
theorem FlagOneZero.fxDynamic : FlagOneZero.Statement (.fxDynamic) :=
  flagClear
theorem FlagOneZero.fxTwinkle : FlagOneZero.Statement (.fxTwinkle) :=
  flagClear
theorem FlagOneZero.fxSparkle : FlagOneZero.Statement (.fxSparkle) :=
  flagClear
theorem FlagOneZero.effect (id : Byte) : FlagOneZero.Statement (.effect id) :=
  flagClear

end Sys2Proof.Laws
end

