-- ==== Sys2Proof/Tests/Slice0.lean ====
section
/-! SUPPORT. Our own tests: the WellFormed smoke, the decoder on words written out from the spec's
encodings, small steps whose results are the vectors of spec/95_test_vectors.md, and for every
statement with hypotheses a state and operands that meet them. -/

namespace Sys2Proof.Tests

open Sys2Proof.Machine Sys2Proof.Claims

/-! ### WellFormed -/

/-- The one check of WellFormed refuses an EFFECT term whose id has an FX row. -/
theorem test_wf_refuses_effect_5 : (Instr.effect 5).wf = false := by decide

theorem test_wf_refuses_effect_15 : (Instr.effect 15).wf = false := by decide

theorem test_wf_admits_effect_16 : (Instr.effect 16).wf = true := by decide

/-! ### Decoding: words from R73 and R79, written out -/

/-- The colour mixer's words (R101, R103, R105). -/
theorem test_decode_color_mix :
    decode 0b00000100_10000000_00000000_00000000 = .ok (.blend 128) ∧
    decode 0b00001000_00000000_00000000_00000000 = .ok .add ∧
    decode 0b00001001_00000000_00000000_00000000 = .ok .addP ∧
    decode 0b00001100_10000000_00000000_00000000 = .ok (.fade 128) ∧
    decode 0b00001101_00000001_00000000_00000000 = .ok (.fadeV 1) := by decide

/-- The hue unit's words (R111, R113, R115). -/
theorem test_decode_hue :
    decode 0b00100000_00101010_00000000_00000000 = .ok (.wheel 42) ∧
    decode 0b00100100_00000000_00000000_00000000 = .ok .hsv2rgb ∧
    decode 0b00101000_00000000_00000000_00000000 = .ok .rgb2hsv := by decide

/-- The wave unit's words (R122, R124, R126). -/
theorem test_decode_wave :
    decode 0b01000000_00100000_00000000_00000000 = .ok (.sin8 32) ∧
    decode 0b01000100_00000000_00000001_00101100 = .ok (.sin16 300) ∧
    decode 0b01001000_00000000_11000000_00000000 = .ok (.tri16 0xC000) := by decide

/-- The palette unit's word: palette id in bits 15:8, position in bits 7:0, brightness in `b` (R134). -/
theorem test_decode_palcolor :
    decode 0b01100000_00110011_00001001_00001010 = .ok (.palcolor 9 10 51) := by decide

/-- The segment unit's words (R142 to R154). -/
theorem test_decode_segment :
    decode 0b10000000_00000000_11111111_11111111 = .ok (.getpix 0xFFFF) ∧
    decode 0b10000100_00000000_00000000_00000010 = .ok (.setpix 2) ∧
    decode 0b10001000_00000000_00000000_00000000 = .ok .fill ∧
    decode 0b10001100_11100000_00000000_00000000 = .ok (.fadeout 224) ∧
    decode 0b10010000_10000000_00000000_00000000 = .ok (.blur 128) ∧
    decode 0b10010100_00000000_00000000_00000000 = .ok .now ∧
    decode 0b10011000_11111111_00000001_00101100 = .ok (.segpal 300 255) ∧
    decode 0b10011001_10000000_00000000_00000011 = .ok (.segpalI 3 128) ∧
    decode 0b10011100_00000000_00000000_00000001 = .ok (.getcolor 1) ∧
    decode 0b10100000_00000000_00000000_00000000 = .ok .reset := by decide

/-- The words of effects 0 to 8 (R161). -/
theorem test_decode_effects_a :
    decode 0xC0000000 = .ok .fxStatic ∧ decode 0xC0010000 = .ok .fxBlink ∧
    decode 0xC0020000 = .ok .fxStrobe ∧ decode 0xC0030000 = .ok .fxBreathe ∧
    decode 0xC0040000 = .ok .fxFade ∧ decode 0xC0050000 = .ok .fxScan ∧
    decode 0xC0060000 = .ok .fxDualScan ∧ decode 0xC0070000 = .ok .fxRainbow ∧
    decode 0xC0080000 = .ok .fxRainbowCycle := by decide

/-- The words of effects 9 to 15 and of the first and last unknown id (R161). -/
theorem test_decode_effects_b :
    decode 0xC0090000 = .ok .fxTheater ∧ decode 0xC00A0000 = .ok .fxRunning ∧
    decode 0xC00B0000 = .ok .fxWipe ∧ decode 0xC00C0000 = .ok .fxRandomColor ∧
    decode 0xC00D0000 = .ok .fxDynamic ∧ decode 0xC00E0000 = .ok .fxTwinkle ∧
    decode 0xC00F0000 = .ok .fxSparkle ∧ decode 0xC0100000 = .ok (.effect 16) ∧
    decode 0xC0FF0000 = .ok (.effect 255) := by decide

/-- Illegal words: unlisted opcodes, and stray bits in each format (R74, R75). -/
theorem test_decode_refuses :
    decode 0 = .error .unknownOpcode ∧ decode 0xFC000000 = .error .unknownOpcode ∧
    decode 0x10000000 = .error .unknownOpcode ∧ decode 0xC4000000 = .error .unknownOpcode ∧
    decode 0x88000001 = .error .unusedFieldNotZero ∧
    decode 0x0A000000 = .error .unusedFieldNotZero ∧
    decode 0x08010000 = .error .unusedFieldNotZero ∧
    decode 0x04000001 = .error .unusedFieldNotZero ∧
    decode 0x0E000000 = .error .unusedFieldNotZero ∧
    decode 0x80010000 = .error .unusedFieldNotZero ∧
    decode 0x61000000 = .error .unusedFieldNotZero ∧
    decode 0x9A000000 = .error .unusedFieldNotZero ∧
    decode 0xC1000000 = .error .unusedFieldNotZero := by decide

/-! ### Steps: the vectors of spec/95_test_vectors.md -/

/-- The test palettes of R134; eight LEDs, four bytes of DATA. -/
def cfg : Config where
  numLeds := 8
  dataCap := 4
  pal :=
    [(0, ⟨⟨0, 0x00FF0000⟩, [⟨128, 0x0000FF00⟩, ⟨255, 0x000000FF⟩]⟩),
      (1, ⟨⟨0, 0x00102030⟩, []⟩), (2, ⟨⟨64, 0⟩, [⟨192, 0x40FFFFFF⟩]⟩)]
  palDefault := ⟨⟨0, 0x00FF0000⟩, []⟩

/-- After reset on that platform, with PIX as given. -/
def base (pix : List Color) : State :=
  { State.reset with cfg := cfg, pix := pix.zipIdx.map (fun p => (p.2, p.1)) }

/-- The set-up of V5: `START = 2`, `END = 5`, `PIX[k] = 0x11111111 * (k + 1)`. -/
def seg5 : State :=
  { base [0x11111111, 0x22222222, 0x33333333, 0x44444444, 0x55555555, 0x66666666, 0x77777777,
      0x88888888] with
    segStart := 2
    segEnd := 5 }

/-- The set-up of V6 and V7 at time `t`, for a segment of `len` pixels from 0. -/
def fxAt (len : Half) (t : Nat) : State :=
  { base [0, 0, 0, 0, 0, 0, 0, 0] with
    segEnd := len
    color1 := 0x00101010
    env := { Env.reset with clk := t } }

/-- `s` with these draws to come. -/
def withDraws (ds : List Nat) (s : State) : State := s.setEnv { s.env with draws := ds }

/-- The state after one step that runs the command word `w`, no time passing. -/
def run (w : Nat) (s : State) : State :=
  match step ((s.setEnv { s.env with gaps := [0] }).withFetchWord 32 w) with
  | .next t => t
  | .fault _ => s
  | .refused _ => s

/-- The state after the next event, no time passing. -/
def event (e : Event) (s : State) : State :=
  match step (s.setEnv { s.env with gaps := [0], host := [e] }) with
  | .next t => t
  | .fault _ => s
  | .refused _ => s

/-- PIX elements 0 to `n - 1`. -/
def pixels (n : Nat) (s : State) : List Color := (List.range n).map (fun k => pixRead k s)

/-- `A` and `B` hold these. -/
def withAB (a b : Word) : State := { base [] with a := a, b := b }

/-- M7, M13 (R101, R103): all four channels; the ratio kept. -/
theorem test_blend_add :
    (run 0x04C80000 (withAB 0x80FF0001 0x0100FF80)).r = 0x1C37C864 ∧
    (run 0x08000000 (withAB 0x00FF0000 0x00010101)).r = 0x00FF0101 ∧
    (run 0x09000000 (withAB 0x40FF8000 0x01FF0180)).r = 0x20FF4040 := by decide

/-- M19, M20, M27 (R105): the floor, video mode, and black before the mode. -/
theorem test_fade :
    (run 0x0C800000 (withAB 0xFF804001 0)).r = 0x80402000 ∧
    (run 0x0D800000 (withAB 0xFF804001 0)).r = 0x80402001 ∧
    (run 0x0D000000 (withAB 0x89ABCDEF 0)).r = 0 := by decide

/-- H3, H11, H12, H22, H24, H28 (R111, R113, R115). -/
theorem test_hue :
    (run 0x202A0000 (withAB 0 0)).r = 0x007E8100 ∧
    (run 0x20FF0000 (withAB 0 0)).r = 0x0000FF00 ∧
    (run 0x24000000 (withAB 0x800080C8 0)).r = 0x0063C8C7 ∧
    (run 0x24000000 (withAB 0xEA60C864 0)).r = 0x0064153D ∧
    (run 0x28000000 (withAB 0x00643219 0)).r = 0x0E39BF64 ∧
    (run 0x28000000 (withAB 0x00FF0080 0)).r = 0xEA95FFFF := by decide

/-- W5, W13, W18, W22, W29, W32 (R122, R124, R126). -/
theorem test_wave :
    (run 0x4400012C (withAB 0 0)).r = 0x000003AE ∧
    (run 0x44009C40 (withAB 0 0)).r = 0xFFFFAE33 ∧
    (run 0x40200000 (withAB 0 0)).r = 0x000000DA ∧
    (run 0x40810000 (withAB 0 0)).r = 0x0000007C ∧
    (run 0x48007FFF (withAB 0 0)).r = 0x0000FFFE ∧
    (run 0x4800C000 (withAB 0 0)).r = 0x00007FFF := by decide

/-- P6, P11, P13 (R134): the second span, the white channel, an unknown id. -/
theorem test_palcolor :
    (run 0x60FF00C8 (withAB 0 0)).r = 0x00006E90 ∧
    (run 0x60FF02BF (withAB 0 0)).r = 0x3FFDFDFD ∧
    (run 0x6033090A (withAB 0 0)).r = 0x00330000 := by decide

/-- S2 to S5 (R142, R143): relative to START, bounds-checked, one element written. -/
theorem test_getpix_setpix :
    (run 0x80000002 seg5).r = 0x55555555 ∧ (run 0x80000003 seg5).r = 0 ∧
    (run 0x8000FFFF seg5).r = 0 ∧
    pixels 8 (run 0x84000001 (seg5.setA 0xCAFEF00D)) =
      [0x11111111, 0x22222222, 0x33333333, 0xCAFEF00D, 0x55555555, 0x66666666, 0x77777777,
        0x88888888] := by decide

/-- S10, S11, S14 (R144, R146, R148). -/
theorem test_fill_fadeout_blur :
    pixels 8 (run 0x88000000 (seg5.setA 0x01020304)) =
      [0x11111111, 0x22222222, 0x01020304, 0x01020304, 0x01020304, 0x66666666, 0x77777777,
        0x88888888] ∧
    pixels 6 (run 0x8CE00000 seg5) =
      [0x11111111, 0x22222222, 0x2C2C2C2C, 0x3B3B3B3B, 0x4A4A4A4A, 0x66666666] ∧
    pixels 6 (run 0x90800000
        ((base [0x00FF0000, 0, 0, 0, 0x000000FF, 0x77777777]).setSegEnd 5)) =
      [0x00BF0000, 0x002F0000, 0, 0x00000040, 0x000000BF, 0x77777777] := by decide

/-- S22 to S25 (R152): rescale with floor division, wrap, no rescale. -/
theorem test_segpal :
    (run 0x99800003 (fxAt 8 0)).r = 0x00126C00 ∧ (run 0x99FF0008 (fxAt 8 0)).r = 0x00B94500 ∧
    (run 0x99FFFFFF (fxAt 8 0)).r = 0x000048B6 ∧ (run 0x98FF012C (fxAt 8 0)).r = 0x00A75700 := by
  decide

/-- S31, S33, S34, S35, S36 (R150, R153). -/
theorem test_now_getcolor :
    (run 0x94000000 (fxAt 4 123456)).r = 0x0001E240 ∧
    (run 0x94000000 (fxAt 4 4294967301)).r = 5 ∧
    (run 0x9C000002 (base [])).r = 0x0000FF00 ∧ (run 0x9C000003 (base [])).r = 0 ∧
    (run 0x9C00FFFF (base [])).r = 0 := by decide

/-- S37 (R154): the scratch registers alone; the bytes of DATA stay. -/
theorem test_reset_command :
    run 0xA0000000 { base [] with
        call := 7, step := 9, aux0 := 1, aux1 := 2, dataLen := 3, data := [(0, 5)], speed := 9
        env := { Env.reset with gapCount := 4 } } =
      { base [] with
        data := [(0, 5)], speed := 9, env := { Env.reset with gapCount := 5 } } := by
  decide

/-- E1 (R164): 350 on the first frame, for an unknown id 24 afterwards. -/
theorem test_static :
    (run 0xC0000000 (fxAt 4 0)).r = 350 ∧ (run 0xC0000000 (fxAt 4 0)).call = 1 ∧
    (run 0xC04D0000 ((fxAt 4 1024).setCall 3)).r = 24 ∧
    pixels 5 (run 0xC04D0000 (fxAt 4 1024)) =
      [0x00FF0000, 0x00FF0000, 0x00FF0000, 0x00FF0000, 0] := by decide

/-- E2 (R165): the inclusive window, and a boundary that forces "on". -/
theorem test_blink :
    pixels 4 (run 0xC0010000 (fxAt 4 1294)) = [0x00FF0000, 0x0055A900, 0x0000AA54, 0x000000FF] ∧
    pixels 4 (run 0xC0010000 (fxAt 4 1295)) = [0x00101010, 0x00101010, 0x00101010, 0x00101010] ∧
    (run 0xC0010000 (fxAt 4 2588)).step = 1 := by decide

/-- E3 (R166). -/
theorem test_strobe :
    pixels 2 (run 0xC0020000 (fxAt 4 24)) = [0x00FF0000, 0x0055A900] ∧
    pixels 2 (run 0xC0020000 (fxAt 4 25)) = [0x00101010, 0x00101010] := by decide

/-- E4, E5 (R167, R168). -/
theorem test_breathe_fade :
    pixels 4 (run 0xC0030000 (fxAt 4 500)) = [0x009C0606, 0x00386A06, 0x00066A38, 0x0006069C] ∧
    pixels 4 (run 0xC0030000 (fxAt 4 1500)) = [0x00A00606, 0x00396C06, 0x00066D39, 0x000606A0] ∧
    pixels 4 (run 0xC0040000 (fxAt 4 1890)) = [0x00870707, 0x00325C07, 0x00075D32, 0x00070787] := by
  decide

/-- E6, E7, E8 (R169, R170): the window at both sides of mid-cycle, its mirror, one pixel. -/
theorem test_scan :
    pixels 8 (run 0xC0050000 (fxAt 8 14850)) =
      [0x00101010, 0x00101010, 0x006F8F00, 0x0025D900, 0x0000DC22, 0x00101010, 0x00101010,
        0x00101010] ∧
    pixels 8 (run 0xC0060000 (fxAt 8 4950)) =
      [0x00101010, 0x00101010, 0x006F8F00, 0x0025D900, 0x0000DC22, 0x0000926C, 0x00101010,
        0x00101010] ∧
    (run 0xC0050000 (fxAt 1 5000)).r = 350 := by decide

/-- E9, E10 (R171, R172). -/
theorem test_rainbows :
    pixels 2 (run 0xC0070000 (fxAt 4 1000)) = [0x0072008D, 0x0072008D] ∧
    pixels 1 (run 0xC0070000 ((fxAt 4 1000).setIntensity 64)) = [0x009540A9] ∧
    pixels 4 (run 0xC0080000 (fxAt 4 1000)) =
      [0x0072008D, 0x00004EB1, 0x000CF300, 0x00CC3300] := by decide

/-- E11 (R180): a boundary advances the offset by one, whatever number of cycles has passed. -/
theorem test_theater :
    pixels 6 (run 0xC0090000 ((fxAt 6 304).setIntensity 0)) =
      [0x00101010, 0x00996500, 0x00101010, 0x00101010, 0x00006698, 0x00101010] ∧
    (run 0xC0090000 (((fxAt 6 2000).setIntensity 0).setAux0 2)).aux0 = 0 ∧
    (run 0xC0090000 (((fxAt 6 2000).setIntensity 0).setAux0 2)).step = 6 := by decide

/-- E12 (R181): the phase is negative before its mask; the counter wraps at 32 bits. -/
theorem test_running :
    pixels 4 (run 0xC00A0000 (fxAt 4 100)) = [0x00420C0C, 0x00386906, 0x00019C4D, 0x000000FE] ∧
    pixels 1 (run 0xC00A0000 (fxAt 4 4294967295)) = [0x008A0707] := by decide

/-- E13, E8 (R182): both phases, the boundary pixel, one pixel. -/
theorem test_wipe :
    pixels 4 (run 0xC00B0000 (fxAt 4 4000)) = [0x00FF0000, 0x0055A900, 0x00101010, 0x00101010] ∧
    pixels 4 (run 0xC00B0000 (fxAt 4 15000)) = [0x00FF0000, 0x004C9701, 0x00101010, 0x00101010] ∧
    pixels 2 (run 0xC00B0000 (fxAt 1 5048)) = [0x00FF0000, 0] := by decide

/-- E14 (R183): a boundary with its draw, and a fade under way. -/
theorem test_random_color :
    (run 0xC00C0000 (withDraws [85] (fxAt 3 6550))).aux0 = 85 ∧
    pixels 1 (run 0xC00C0000 (((fxAt 3 7000).setStep 1).setAux0 85)) = [0x0023DC00] ∧
    pixels 1 (run 0xC00C0000 (withDraws [170] ((fxAt 3 6551).setIntensity 0))) =
      [0x000000FF] := by decide

/-- E15 (R184): six draws at a boundary; frozen at SPEED 0. -/
theorem test_dynamic :
    pixels 4 (run 0xC00D0000
        (withDraws [10, 85, 200, 127, 170, 128] ((fxAt 4 1955).setDataLen 4))) =
      [0x00FF0000, 0x0000FF00, 0x000000FF, 0x0000FF00] ∧
    (run 0xC00D0000 (withDraws [10, 85, 200, 127, 170, 128] (fxAt 4 1955))).data =
      [(0, 85), (2, 170)] ∧
    (run 0xC00D0000 ((fxAt 4 100000).setSpeed 0)).step = 0 ∧
    (run 0xC00D0000 (fxAt 5 1955)).r = 350 := by decide

/-- E16 (R185): the third spark, and the reseed at the cap. -/
theorem test_twinkle :
    pixels 3 (run 0xC00E0000 (((fxAt 8 1965).setStep 2).setAux0 2)) =
      [0x00FF0000, 0x00B74700, 0] ∧
    pixels 2 (run 0xC00E0000
        { base [0x00FF0000, 0x00B74700] with
          segEnd := 8, step := 4, aux0 := 4, env := { Env.reset with clk := 3275 } }) =
      [0x00FF0000, 0x00A03E00] ∧
    (run 0xC00E0000 (((fxAt 8 3275).setStep 4).setAux0 4)).aux1 = 13849 := by decide

/-- E17 (R186). -/
theorem test_sparkle :
    pixels 4 (run 0xC00F0000 (withDraws [2] (fxAt 4 264))) =
      [0x00FF0000, 0x0055A900, 0x00FF0000, 0x000000FF] ∧
    (run 0xC00F0000 (withDraws [2] (fxAt 4 264))).aux0 = 2 := by decide

/-- P4 (R22, R55, R74): an illegal word, write-one-to-clear, a reserved address. -/
theorem test_illegal_and_status :
    run 0x88000001 seg5 = ((seg5.setEnv { seg5.env with gapCount := 1 })).setIll true ∧
    (event (.rd 1) (seg5.setIll true)).env.rdata = 1 ∧
    (event (.wr 1 0) (seg5.setIll true)).ill = true ∧
    (event (.wr 1 1) (seg5.setIll true)).ill = false ∧
    (event (.rd 0x30) seg5).env.rdata = 0 ∧ (event (.rd 0x8008) seg5).env.rdata = 0 ∧
    (event (.rd 0x8007) seg5).env.rdata = 0x88888888 := by decide

/-- A different value in every register the host can read. -/
def distinct : State :=
  { base [] with
    a := 0x102, b := 0x103, r := 0x104, ill := true, segStart := 0x110, segEnd := 0x111
    color0 := 0x112, color1 := 0x113, color2 := 0x114, speed := 0x15, intensity := 0x16
    custom1 := 0x17, custom2 := 0x18, custom3 := 0x19, paletteId := 0x1A, call := 0x120, step := 0x121
    aux0 := 0x122, aux1 := 0x123, dataLen := 0x124 }

/-- R52: each address of the REG map reads the register its row names. -/
theorem test_reg_map_reads :
    ([0x00, 0x01, 0x02, 0x03, 0x04, 0x10, 0x11, 0x12, 0x13, 0x14, 0x15, 0x16, 0x17, 0x18, 0x19, 0x1A,
        0x20, 0x21, 0x22, 0x23, 0x24] : List Half).map
        (fun addr => (event (.rd addr) distinct).env.rdata) =
      [0, 1, 0x102, 0x103, 0x104, 0x110, 0x111, 0x112, 0x113, 0x114, 0x15, 0x16, 0x17, 0x18, 0x19,
        0x1A, 0x120, 0x121, 0x122, 0x123, 0x124] := by decide

/-- R52, R56: writes to the REG map, in the table's order, fill the register each row names. -/
theorem test_reg_map_writes :
    ([0x01, 0x02, 0x03, 0x04, 0x10, 0x11, 0x12, 0x13, 0x14, 0x15, 0x16, 0x17, 0x18, 0x19, 0x1A, 0x20,
        0x21, 0x22, 0x23, 0x24] : List Half).foldl
        (fun s addr => event (.wr addr (0xABCD0100 + addr.setWidth 32)) s) (base []) =
      { base [] with
        a := 0xABCD0102, b := 0xABCD0103, segStart := 0x0110, segEnd := 0x0111
        color0 := 0xABCD0112, color1 := 0xABCD0113, color2 := 0xABCD0114, speed := 0x15
        intensity := 0x16, custom1 := 0x17, custom2 := 0x18, custom3 := 0x19, paletteId := 0x1A
        call := 0xABCD0120, step := 0xABCD0121, aux0 := 0xABCD0122, aux1 := 0xABCD0123
        env := { Env.reset with gapCount := 20 } } := by decide

/-! ### The hypotheses of the statements are met

One theorem for each statement with hypotheses: a concrete state and operands that meet all of them,
for each clause, at the ends of its range. -/

/-- The state `exec i s` answers. -/
def after (i : Instr) (s : State) : State :=
  match exec i s with
  | .next t => t
  | .fault _ => s
  | .refused _ => s

/-- The state `step s` answers. -/
def stepped (s : State) : State :=
  match step s with
  | .next t => t
  | .fault _ => s
  | .refused _ => s

/-- `seg5` with these events to come. -/
def facing (es : List Event) : State := seg5.setEnv { seg5.env with host := es, gaps := [7] }

/-- A platform at the bounds of R5. -/
def widest : State := { base [] with cfg := { cfg with numLeds := 32767, dataCap := 16384 } }

theorem witness_DecodeOfEncodeIsTheCommand :
    (Instr.effect 16).wf = true ∧ (Instr.effect 255).wf = true ∧
    (Instr.palcolor 255 0 1).wf = true := by decide

theorem witness_EncodeOfDecodeIsTheWord :
    decode 0x09000000 = .ok .addP ∧ decode 0xC0FF0000 = .ok (.effect 255) := by decide

/-- A word that matches a row, and one that matches none. -/
theorem witness_LegalWordsMatchOneTableRow :
    (⟨"ADD", 0x08000000#32, 0xFEFFFFFF#32⟩ : CommandRow) ∈ commandRows ∧
    (0x09000000 : Word) &&& 0xFEFFFFFF = 0x08000000 ∧
    (∀ row ∈ commandRows, (0x0A000000 : Word) &&& row.mask ≠ row.pattern) := by decide

theorem witness_StepRunsTheDecodedCommand :
    (facing [.wr 0 0x84000001, .rd 4]).env.host = .wr 0 0x84000001 :: [.rd 4] ∧
    decode 0x84000001 = .ok (.setpix 1) := by decide

theorem witness_IllegalWordSetsIllAlone :
    (facing [.wr 0 0x88000001]).env.host = .wr 0 0x88000001 :: [] ∧
    ∀ row ∈ commandRows, (0x88000001 : Word) &&& row.mask ≠ row.pattern := by decide

theorem witness_StatusReadsAndClearsIll :
    (facing [.wr 1 0xFFFFFFFE]).env.host = .wr 1 0xFFFFFFFE :: [] ∧
    (facing [.wr 1 1]).env.host = .wr 1 1 :: [] ∧ (facing [.rd 1]).env.host = .rd 1 :: [] := by
  decide

theorem witness_OnlyIllegalWordsRaiseIll :
    step (facing [.wr 0 0]) = .next (stepped (facing [.wr 0 0])) ∧
    (facing [.wr 0 0]).ill = false ∧ (stepped (facing [.wr 0 0])).ill = true := ⟨rfl, by decide⟩

/-- Every row of the table, and for the first, a narrow and the last one the events of each clause. -/
theorem witness_HostRegisterReadsBackCutToItsWidth :
    hostRegisters.map (fun reg => (reg.addr, reg.width)) =
      [(0x02, 32), (0x03, 32), (0x10, 16), (0x11, 16), (0x12, 32), (0x13, 32), (0x14, 32), (0x15, 8),
        (0x16, 8), (0x17, 8), (0x18, 8), (0x19, 8), (0x1A, 8), (0x20, 32), (0x21, 32), (0x22, 32),
        (0x23, 32)] ∧
    ∀ addr ∈ [0x02, 0x1A, 0x23],
      (facing [.wr (BitVec.ofNat 16 addr) 0x1FF]).env.host =
        .wr (BitVec.ofNat 16 addr) 0x1FF :: [] ∧
      (facing [.rd (BitVec.ofNat 16 addr)]).env.host = .rd (BitVec.ofNat 16 addr) :: [] ∧
      (facing [.wr (BitVec.ofNat 16 addr) 0x1FF, .rd (BitVec.ofNat 16 addr)]).env.host =
        .wr (BitVec.ofNat 16 addr) 0x1FF :: .rd (BitVec.ofNat 16 addr) :: [] := ⟨rfl, by decide⟩

/-- Both ends of each reserved range, for 8 LEDs and 4 bytes of DATA. -/
theorem witness_ReservedAddressesAreInert :
    (facing [.wr 0x0005 1]).cfg.wf = true ∧
    (∀ a ∈ [0x0005, 0x000F, 0x001B, 0x001F, 0x0025, 0x3FFF, 0x4004, 0x7FFF, 0x8008, 0xFFFF],
      ((reserved cfg (BitVec.ofNat 16 a).toNat) ∧
        (facing [.wr (BitVec.ofNat 16 a) 1]).env.host = .wr (BitVec.ofNat 16 a) 1 :: [] ∧
        (facing [.rd (BitVec.ofNat 16 a)]).env.host = .rd (BitVec.ofNat 16 a) :: [])) := by
  unfold reserved; decide

theorem witness_ReadOnlyRegistersIgnoreWrites :
    (facing [.wr 0x0004 5]).env.host = .wr 0x0004 5 :: [] ∧
    (facing [.wr 0x0024 5]).env.host = .wr 0x0024 5 :: [] ∧
    (facing [.rd 0x0004]).env.host = .rd 0x0004 :: [] ∧
    (facing [.rd 0x0024]).env.host = .rd 0x0024 :: [] ∧
    (facing [.rd 0x0000]).env.host = .rd 0x0000 :: [] := by decide

/-- The first and the last pixel, on a platform of 8 and of 32767. -/
theorem witness_PixWindowReadsAndWritesOneElement :
    (facing [.wr 0x8007 1]).cfg.wf = true ∧ 0 < cfg.numLeds ∧ 7 < cfg.numLeds ∧
    (facing [.wr 0x8007 1]).env.host = .wr (BitVec.ofNat 16 (0x8000 + 7)) 1 :: [] ∧
    (facing [.rd 0x8000]).env.host = .rd (BitVec.ofNat 16 (0x8000 + 0)) :: [] ∧
    widest.cfg.wf = true ∧ 32766 < widest.cfg.numLeds := by decide

theorem witness_DataWindowReadsAndWritesOneByte :
    (facing [.wr 0x4003 0x1FF]).inv = true ∧ 0 < cfg.dataCap ∧ 3 < cfg.dataCap ∧
    (facing [.wr 0x4003 0x1FF]).env.host = .wr (BitVec.ofNat 16 (0x4000 + 3)) 0x1FF :: [] ∧
    (facing [.rd 0x4000]).env.host = .rd (BitVec.ofNat 16 (0x4000 + 0)) :: [] ∧
    widest.inv = true ∧ 16383 < widest.cfg.dataCap := by decide

theorem witness_ForeignWriteAndIdleStep :
    (facing [.foreign 7 0xABCDEF]).env.host = .foreign 7 0xABCDEF :: [] ∧ 7 < cfg.numLeds ∧
    (facing []).env.host = [] := by decide

theorem witness_HardwareResetEventRestartsTheEngine :
    (facing [.hardReset, .rd 4]).env.host = .hardReset :: [.rd 4] := by decide

/-- Time passes; and the elapsed time is at the top of its range. -/
theorem witness_ElapsedTimeIsMonotonic :
    step (facing [.rd 4]) = .next (stepped (facing [.rd 4])) ∧
    (facing [.rd 4]).env.host.head? ≠ some .hardReset ∧
    (facing [.rd 4]).t0 ≤ (facing [.rd 4]).env.clk ∧
    (stepped (facing [.rd 4])).env.clk - (stepped (facing [.rd 4])).t0 = 7 ∧
    (7 : Nat) < 2 ^ 32 := ⟨rfl, by decide⟩

/-- For a command, a host write, a foreign write, a hardware reset and an idle step. -/
theorem witness_EveryStepKeepsTheInvariant :
    (facing [.wr 0 0x88000000]).inv = true ∧
    step (facing [.wr 0 0x88000000]) = .next (stepped (facing [.wr 0 0x88000000])) ∧
    (facing [.wr 0x8007 0]).inv = true ∧
    step (facing [.wr 0x8007 0]) = .next (stepped (facing [.wr 0x8007 0])) ∧
    (facing [.foreign 0 1]).inv = true ∧
    step (facing [.foreign 0 1]) = .next (stepped (facing [.foreign 0 1])) ∧
    (facing [.hardReset]).inv = true ∧
    step (facing [.hardReset]) = .next (stepped (facing [.hardReset])) ∧
    (facing []).inv = true ∧ step (facing []) = .next (stepped (facing [])) :=
  ⟨by decide, rfl, by decide, rfl, by decide, rfl, by decide, rfl, by decide, rfl⟩

theorem witness_CommandsLeaveTheHostsRegisters :
    exec .fill seg5 = .next (after .fill seg5) ∧
    exec .fxTwinkle seg5 = .next (after .fxTwinkle seg5) := ⟨rfl, rfl⟩

/-- Below, above, and beyond the end of PIX. -/
theorem witness_PixelsOutsideTheSegmentStay :
    exec .fill seg5 = .next (after .fill seg5) ∧ ¬inSegment seg5 1 ∧ ¬inSegment seg5 5 ∧
    ¬inSegment (seg5.setSegEnd 20) 8 := ⟨rfl, by decide⟩

theorem witness_OnlyThreeEffectsDraw :
    exec .fxTwinkle seg5 = .next (after .fxTwinkle seg5) ∧ effectNumber .fxTwinkle ≠ some 12 ∧
    effectNumber .fxTwinkle ≠ some 13 ∧ effectNumber .fxTwinkle ≠ some 15 :=
  ⟨rfl, by decide⟩

theorem witness_FramesIgnoreOldPixelsAndCall :
    effectNumber .fxSparkle = some 15 ∧ (15 : Nat) ≠ 14 ∧
    exec .fxSparkle seg5 = .next (after .fxSparkle seg5) ∧
    exec .fxSparkle ((seg5.setPix [(2, 9)]).setCall 5) =
      .next (after .fxSparkle ((seg5.setPix [(2, 9)]).setCall 5)) ∧
    inSegment seg5 2 ∧ inSegment seg5 4 :=
  ⟨rfl, by decide, rfl, rfl, by decide⟩

theorem witness_BlendInterpolatesEachChannel : 0 ≤ 255 ∧ 128 ≤ 255 ∧ 255 ≤ 255 := by decide

/-- The greatest sum at 255, just above it, and 510. -/
theorem witness_AddClampsOrKeepsTheRatio :
    ((∀ k ∈ [Channel.W, .R, .G, .B], chan k 0x00FE0000 + chan k 0x00010101 ≤ 255) ∧
      chan .R 0x00FE0000 + chan .R 0x00010101 = 255 ∧ 255 ≤ 255) ∧
    ((∀ k ∈ [Channel.W, .R, .G, .B], chan k 0x00FF0000 + chan k 0x00010101 ≤ 256) ∧
      chan .R 0x00FF0000 + chan .R 0x00010101 = 256 ∧ 255 < 256) ∧
    ((∀ k ∈ [Channel.W, .R, .G, .B], chan k 0xFFFFFFFF + chan k 0xFFFFFFFF ≤ 510) ∧
      chan .W 0xFFFFFFFF + chan .W 0xFFFFFFFF = 510 ∧ 255 < 510) := by decide

theorem witness_FadeToBlackScalesEachChannel :
    (1 ≤ 1 ∧ 1 ≤ 254) ∧ (1 ≤ 254 ∧ 254 ≤ 254) ∧ chan .G 0x0000FF00 = 255 := by decide

/-- Both ends of each band. -/
theorem witness_HueWheelHasThreeBands :
    (0 ≤ 255 ∧ 0 < 85) ∧ (84 ≤ 255 ∧ 84 < 85) ∧ (85 ≤ 85 ∧ 85 < 170) ∧ (85 ≤ 169 ∧ 169 < 170) ∧
    (170 ≤ 170 ∧ 170 ≤ 255) ∧ (170 ≤ 255 ∧ 255 ≤ 255) ∧ 254 < 255 := by decide

/-- Gray, and the first and last hue of all and of the first regions. -/
theorem witness_HsvToRgbInterpolatesInItsRegion :
    (65535 < 65536 ∧ 0 < 256 ∧ 255 < 256) ∧
    ∀ h ∈ [0, 10922, 10923, 21846, 32768, 32769, 43692, 54615, 65535],
      h < 65536 ∧ 1 < 256 ∧ (1 : Nat) ≠ 0 := by decide

/-- Black, gray, and each channel greatest; red wins ties. -/
theorem witness_RgbToHsvFloorsAndMasksTheHue :
    (max (chan .R 0) (max (chan .G 0) (chan .B 0)) = 0) ∧
    (chan .R 0x808080 = chan .G 0x808080 ∧ chan .G 0x808080 = chan .B 0x808080) ∧
    (chan .G 0xFF0080 < chan .B 0xFF0080 ∧ chan .B 0xFF0080 < chan .R 0xFF0080) ∧
    (chan .B 0xFFFF00 < chan .R 0xFFFF00 ∧ chan .R 0xFFFF00 = chan .G 0xFFFF00) ∧
    (chan .R 0x00FF80 < chan .B 0x00FF80 ∧ chan .B 0x00FF80 < chan .G 0x00FF80) ∧
    (chan .R 0x102030 < chan .G 0x102030 ∧ chan .G 0x102030 < chan .B 0x102030) := by decide

theorem witness_Sin16InterpolatesTheTable :
    0 < 16384 ∧ 16383 < 16384 ∧ 0 < 32768 ∧ 32767 < 32768 := by decide

/-- The ends of the quadrants. -/
theorem witness_Sin16IsMonotonicPerQuadrant :
    (0 < 65536 ∧ 0 < 16384) ∧ (16383 < 65536 ∧ 16383 < 16384) ∧ (16384 ≤ 16384 ∧ 16384 < 49152) ∧
    (16384 ≤ 49151 ∧ 49151 < 49152) ∧ (49152 ≤ 49152 ∧ 49152 < 65535) ∧
    (49152 ≤ 65534 ∧ 65534 < 65535) ∧ 65535 < 65536 := by decide

theorem witness_TriangleWaveIsTwoRamps :
    (0 < 0xFFFF ∧ 0 < 0x7FFF) ∧ (0x7FFE < 0xFFFF ∧ 0x7FFE < 0x7FFF) ∧
    (0x7FFF < 0xFFFF ∧ 0x7FFF < 0x8000) ∧ (0x8000 < 0xFFFF ∧ 0x8000 ≤ 0x8000) ∧
    (0xFFFE < 0xFFFF ∧ 0x8000 ≤ 0xFFFE) := by decide

/-- At and before the first stop, at and after the last, and at both ends of a span. -/
theorem witness_PaletteInterpolatesBetweenNeighbours :
    let p : Palette := ⟨⟨64, 0⟩, [⟨128, 0xFF⟩, ⟨192, 0x40FFFFFF⟩]⟩
    p.wf = true ∧ (0 ≤ p.first.pos.toNat ∧ 64 ≤ p.first.pos.toNat) ∧
    (p.stops.getLast? = some ⟨192, 0x40FFFFFF⟩ ∧ (192 : Byte).toNat ≤ 192 ∧
      (192 : Byte).toNat ≤ 255) ∧
    (p.stops[0]? = some ⟨64, 0⟩ ∧ p.stops[0 + 1]? = some ⟨128, 0xFF⟩ ∧ (64 : Byte).toNat ≤ 64 ∧
      64 < (128 : Byte).toNat) ∧
    (p.stops[1]? = some ⟨128, 0xFF⟩ ∧ p.stops[1 + 1]? = some ⟨192, 0x40FFFFFF⟩ ∧
      (128 : Byte).toNat ≤ 191 ∧ 191 < (192 : Byte).toNat) := by decide

/-- An unknown id; a known one with entries before and after it. -/
theorem witness_PaletteFallsBackAndScales :
    (0 ≤ 255 ∧ 255 ≤ 255) ∧ (∀ e ∈ cfg.pal, e.1 ≠ 7) ∧
    cfg.pal = cfg.pal.take 1 ++ (1, ⟨⟨0, 0x00102030⟩, []⟩) :: cfg.pal.drop 2 ∧
    ∀ e ∈ cfg.pal.take 1, e.1 ≠ 1 := by decide

/-- The first and last index, and one refused by each condition. -/
theorem witness_PixelCommandsAreBoundsChecked :
    (0 ≤ (0 : Half).toInt ∧ (0 : Half).toInt < seg5.len ∧
      seg5.segStart.toNat + (0 : Half).toInt < seg5.cfg.numLeds) ∧
    (0 ≤ (2 : Half).toInt ∧ (2 : Half).toInt < seg5.len ∧
      seg5.segStart.toNat + (2 : Half).toInt < seg5.cfg.numLeds) ∧
    ¬0 ≤ (0xFFFF : Half).toInt ∧ ¬(3 : Half).toInt < seg5.len ∧
    ¬(seg5.setSegEnd 20).segStart.toNat + (6 : Half).toInt < seg5.cfg.numLeds := by
  rw [show (0 : Half).toInt = 0 by decide, show (2 : Half).toInt = 2 by decide,
    show (0xFFFF : Half).toInt = -1 by decide, show (3 : Half).toInt = 3 by decide,
    show (6 : Half).toInt = 6 by decide, show seg5.len = 3 by decide,
    show seg5.segStart.toNat = 2 by decide, show seg5.cfg.numLeds = 8 by decide,
    show (seg5.setSegEnd 20).segStart.toNat = 2 by decide]
  omega

theorem witness_BlurReadsTheOldNeighbours :
    ((0 : Byte) = 0) ∧ (seg5.setSegEnd 4).len < 3 ∧ ((1 : Byte) ≠ 0 ∧ 3 ≤ seg5.len) ∧
    inSegment seg5 2 ∧ inSegment seg5 3 ∧ inSegment seg5 4 := by decide

theorem witness_NowAndGetcolorWriteR :
    (0 : Half).toInt = 0 ∧ (1 : Half).toInt = 1 ∧ (2 : Half).toInt = 2 ∧
    (0xFFFF : Half).toInt < 0 ∧ 3 ≤ (3 : Half).toInt := by decide

/-- Each fallback. -/
theorem witness_StaticAndItsFallbacks :
    effectNumber .fxStatic = some 0 ∧
    (effectNumber (.effect 16) = some 16 ∧ 15 < 16) ∧
    (effectNumber .fxBlink = some 1 ∧ (fxAt 0 0).len = 0) ∧
    (∀ i ∈ [Instr.fxScan, .fxDualScan, .fxWipe],
      (effectNumber i = some 5 ∨ effectNumber i = some 6 ∨ effectNumber i = some 11) ∧
        (fxAt 1 0).len ≤ 1) ∧
    (effectNumber .fxDynamic = some 13 ∧ (fxAt 5 0).cfg.dataCap < (fxAt 5 0).len) := by decide

/-- A segment of one pixel and one that PIX does not hold. -/
theorem witness_OneColourEffects :
    (fxAt 1 0).len ≠ 0 ∧ (fxAt 65535 0).len ≠ 0 ∧ inSegment (fxAt 65535 0) 7 := by decide

/-- Blink and Strobe: at a boundary; inside, at the end of and after the on window. -/
theorem witness_BlinkAndStrobeAreOnInTheirWindow :
    (fxAt 4 1294).len ≠ 0 ∧ 2588 / 2588 ≠ (fxAt 4 2588).step.toNat ∧
    (1294 / 2588 = (fxAt 4 1294).step.toNat ∧ 1294 % 2588 ≤ 1294) ∧
    (1295 / 2588 = (fxAt 4 1295).step.toNat ∧ ¬1295 % 2588 ≤ 1294) := by decide

/-- Breathe: both sides of the fold, its top, and the rest after it (`SPEED = 128`, rate 26). -/
theorem witness_BreatheAndFadeCrossfade :
    let c := fun t : Nat =>
      let c0 := (t * (((fxAt 4 t).speed.toNat >>> 3) + 10)) &&& 0xFFFF
      (c0 >>> 2) + (c0 >>> 4)
    (fxAt 4 0).len ≠ 0 ∧ c 500 ≤ 8192 ∧ (8192 < c 1500 ∧ c 1500 < 16384) ∧ 16384 ≤ c 2300 := by
  decide

theorem witness_ScanAndDualScanLightTheirWindows :
    (fxAt 0 0).len ≤ 1 ∧ (fxAt 1 0).len ≤ 1 ∧ 2 ≤ (fxAt 2 0).len ∧ 2 ≤ (fxAt 8 4950).len ∧
    scanWindow (now (fxAt 8 4950)).toNat 128 128 8 = (3, 3) ∧ inWindow 3 3 3 ∧ inWindow 3 3 5 ∧
    ¬inWindow 3 3 6 := by decide

theorem witness_RainbowsTurnTheWheel :
    (fxAt 1 1000).len ≠ 0 ∧ ((fxAt 1 1000).setIntensity 127).intensity.toNat < 128 ∧
    ¬(fxAt 1 1000).intensity.toNat < 128 := by decide

/-- A boundary, and none. -/
theorem witness_TheaterChaseAdvancesOncePerBoundary :
    (fxAt 1 304).len ≠ 0 ∧ 304 / 304 ≠ (fxAt 1 304).step.toNat ∧
    303 / 304 = (fxAt 1 303).step.toNat := by decide

theorem witness_RunningLightsFollowTheSine : (fxAt 1 4294967295).len ≠ 0 := by decide

theorem witness_ColorWipeSpreadsForwardThenBackward :
    (fxAt 1 9900).len ≤ 1 ∧ 2 ≤ (fxAt 2 9900).len ∧ ¬32767 < 9900 % 19800 * 65535 / 19800 ∧
    32767 < 9901 % 19800 * 65535 / 19800 := by decide

theorem witness_RandomColorFadesToItsTarget :
    (fxAt 1 6550).len ≠ 0 ∧ 6550 / 6550 ≠ (fxAt 1 6550).step.toNat ∧
    6549 / 6550 = (fxAt 1 6549).step.toNat := by decide

/-- The segment as long as DATA; a draw below INTENSITY and one not; no boundary; SPEED 0. -/
theorem witness_DynamicRedrawsHuesAtABoundary :
    (fxAt 5 1955).cfg.dataCap < (fxAt 5 1955).len ∧
    (fxAt 4 1955).inv = true ∧ (fxAt 4 1955).len ≠ 0 ∧
    (fxAt 4 1955).len ≤ (fxAt 4 1955).cfg.dataCap ∧
    (1955 / 1955 ≠ (fxAt 4 1955).step.toNat ∧ (fxAt 4 1955).speed ≠ 0) ∧
    rawDraw (withDraws [127, 170, 128] (fxAt 4 1955)) 0 % 255 < (fxAt 4 1955).intensity.toNat ∧
    ¬rawDraw (withDraws [127, 170, 128] (fxAt 4 1955)) 2 % 255 <
      (fxAt 4 1955).intensity.toNat ∧
    1954 / 1955 = (fxAt 4 1954).step.toNat ∧ ((fxAt 4 1955).setSpeed 0).speed = 0 := by decide

/-- No boundary; one below the cap; one at the cap; a lit pixel and an unlit one. -/
theorem witness_TwinkleReplaysItsGenerator :
    (fxAt 8 654).len ≠ 0 ∧ 654 / 655 = (fxAt 8 654).step.toNat ∧
    655 / 655 ≠ (fxAt 8 655).step.toNat ∧
    ¬(1 + (fxAt 8 655).intensity.toNat * (8 - 1) / 255 ≤ ((fxAt 8 655).setAux0 3).aux0.toNat) ∧
    1 + (fxAt 8 655).intensity.toNat * (8 - 1) / 255 ≤ ((fxAt 8 655).setAux0 4).aux0.toNat ∧
    (8 * generator 0) >>> 16 = 1 ∧ inSegment (fxAt 8 655) 1 ∧ inSegment (fxAt 8 655) 0 := by
  decide

theorem witness_SparkleOverlaysOnePixel :
    (fxAt 1 264).len ≠ 0 ∧ 264 / 264 ≠ (fxAt 1 264).step.toNat ∧
    263 / 264 = (fxAt 1 263).step.toNat := by decide

end Sys2Proof.Tests
end

section
/-! The state after hardware reset and the RESET command (spec/10_state.md R39). -/

namespace Sys2Proof.Machine

/-- A DATA memory that lists nothing reads 0 everywhere (R32). -/
theorem dataRead_of_data_eq_nil {s : State} (h : s.data = []) (k : Nat) : dataRead k s = 0 := by
  simp [dataRead, h, Memory.find]

/-- The elapsed time is 0 at the instant the clock origin is latched (R37, R207). -/
theorem now_of_clk_eq_t0 {s : State} (h : s.env.clk = s.t0) : now s = 0 := by
  simp [now, h]

/-- The RESET command, by its fields: the five it clears (R154). -/
theorem exec_reset (s : State) :
    exec .reset s = .next { s with call := 0, step := 0, aux0 := 0, aux1 := 0, dataLen := 0 } :=
  rfl

/-- Settles O15: DATA lists nothing and the clock origin is latched at reset; the register rows are
the fields of `State.reset` as written. -/
theorem resetStateHasTheTableOfResetValues : Obligations.ResetStateHasTheTableOfResetValues := by
  have hdata : ∀ k, dataRead k State.reset = 0 := dataRead_of_data_eq_nil rfl
  have hnow : now State.reset = 0 := now_of_clk_eq_t0 rfl
  unfold Obligations.ResetStateHasTheTableOfResetValues
  exact ⟨rfl, rfl, rfl, rfl, rfl, rfl, rfl, rfl, rfl, rfl, rfl, rfl, rfl, rfl, rfl, rfl, rfl, rfl,
    rfl, rfl, hdata, hnow, exec_reset⟩

end Sys2Proof.Machine
end


section
/-! The step at the host port, and the reserved addresses (spec/20_memory.md R51 to R55, R59). -/

namespace Sys2Proof.Machine

open Sys2Proof.Claims

/-! ### The step when the host's next event is given -/

/-- Taking a given event leaves the state in which the statements act on it. -/
theorem accept_of_host_cons {s : State} {e : Event} {rest : List Event}
    (h : s.env.host = e :: rest) : accept s = afterEvent s rest := by
  simp [accept, dropEvent, letTimePass, afterEvent, h]

/-- An event that issues no command word is performed as it is (R51). -/
theorem step_of_host_cons {s : State} {e : Event} {rest : List Event}
    (h : s.env.host = e :: rest) (he : commandOf e = none) :
    step s = .next (perform e (afterEvent s rest)) := by
  simp [step, pending, h, he, accept_of_host_cons h]

/-- A write to an address other than CMD is the write of the memory map (R51, R70). -/
theorem step_of_host_wr {s : State} {addr : Half} {d : Word} {rest : List Event}
    (h : s.env.host = .wr addr d :: rest) (hcmd : addr ≠ cmdAddr) :
    step s = .next (hostWrite addr d (afterEvent s rest)) :=
  step_of_host_cons h (if_neg hcmd)

/-- What a read returns does not depend on the agents around the engine. -/
@[simp] theorem readWord_setEnv (addr : Half) (s : State) (v : Env) :
    readWord addr (s.setEnv v) = readWord addr s := rfl

/-- A read changes the model's own fields alone, whatever its address (R51, R59). -/
theorem step_of_host_rd {s : State} {addr : Half} {rest : List Event}
    (h : s.env.host = .rd addr :: rest) :
    step s = .next (s.setEnv (envAfterRead s rest (readWord addr s))) :=
  step_of_host_cons h rfl

/-- Letting time pass and taking an event draws nothing. -/
theorem drewNothing_afterEvent (s : State) (rest : List Event) :
    drewNothing s (afterEvent s rest) := ⟨rfl, rfl⟩

/-- A read draws nothing. -/
theorem drewNothing_envAfterRead (s : State) (rest : List Event) (v : Word) :
    drewNothing s (s.setEnv (envAfterRead s rest v)) := ⟨rfl, rfl⟩

/-! ### Reserved addresses: outside both windows and outside the REG map (R55) -/

section Reserved

variable {c : Config} {addr : Half}

theorem ne_cmdAddr_of_reserved (h : reserved c addr.toNat) : addr ≠ cmdAddr := by
  rintro rfl
  simp [reserved, cmdAddr] at h

theorem pixWindow_of_reserved (h : reserved c addr.toNat) : pixWindow addr c = none := by
  refine Option.eq_none_iff_forall_ne_some.2 fun k hk => ?_
  obtain ⟨haddr, hlt⟩ := (pixWindow_eq_some addr c k).1 hk
  unfold reserved at h
  omega

theorem dataWindow_of_reserved (h : reserved c addr.toNat) : dataWindow addr c = none := by
  refine Option.eq_none_iff_forall_ne_some.2 fun k hk => ?_
  obtain ⟨haddr, hbelow, hlt⟩ := (dataWindow_eq_some addr c k).1 hk
  unfold reserved at h
  omega

/-- No row of the REG map has a reserved address, so a write falls to the last case. -/
theorem regWrite_of_reserved (h : reserved c addr.toNat) (d : Word) (s : State) :
    regWrite addr d s = s := by
  unfold reserved at h
  unfold regWrite
  split
  case h_19 => rfl
  all_goals omega

/-- No row of the REG map has a reserved address, so a read falls to the last case. -/
theorem regRead_of_reserved (h : reserved c addr.toNat) (s : State) : regRead addr s = 0 := by
  unfold reserved at h
  unfold regRead
  split
  case h_21 => rfl
  all_goals omega

end Reserved

theorem hostWrite_of_reserved {s : State} {addr : Half} (h : reserved s.cfg addr.toNat)
    (d : Word) : hostWrite addr d s = s := by
  rw [hostWrite, pixWindow_of_reserved h, dataWindow_of_reserved h]
  exact regWrite_of_reserved h d s

theorem readWord_of_reserved {s : State} {addr : Half} (h : reserved s.cfg addr.toNat) :
    readWord addr s = 0 := by
  rw [readWord, pixWindow_of_reserved h, dataWindow_of_reserved h]
  exact regRead_of_reserved h s

/-- Settles O10: the write leaves the state in which it is acted on, and the read returns 0 and
changes the model's own fields alone. The bounds of R5 are not needed: the model bounds the DATA
window by `0x8000` whatever `DATA_CAP` is. -/
theorem reservedAddressesAreInert : Obligations.ReservedAddressesAreInert := by
  unfold Obligations.ReservedAddressesAreInert
  intro s addr d rest _ hres
  refine ⟨fun hwr => ⟨afterEvent s rest, ?_, rfl, rfl, drewNothing_afterEvent s rest⟩,
    fun hrd => ⟨s.setEnv (envAfterRead s rest 0), ?_, rfl, rfl,
      drewNothing_envAfterRead s rest 0⟩⟩
  · rw [step_of_host_wr hwr (ne_cmdAddr_of_reserved hres)]
    exact congrArg _ (hostWrite_of_reserved (s := afterEvent s rest) hres d)
  · rw [step_of_host_rd hrd, readWord_of_reserved hres]

end Sys2Proof.Machine
end


section
/-! A word that decodes matches a row of the command table (spec/30_encoding.md R71, R73). -/

namespace Sys2Proof

/-- Masking a built word masks each of its fields (R70). -/
theorem assemble_and_assemble (x m : Fields) :
    assemble x &&& assemble m =
      assemble ⟨x.op &&& m.op, x.f &&& m.f, x.b &&& m.b, x.imm &&& m.imm⟩ := by
  have hand : (x.op ++ x.f ++ x.b ++ x.imm) &&& (m.op ++ m.f ++ m.b ++ m.imm) =
      (x.op &&& m.op) ++ (x.f &&& m.f) ++ (x.b &&& m.b) ++ (x.imm &&& m.imm) := by
    simp only [BitVec.and_append]
  exact hand

/-! ### A format accepts a word only if the bits it does not use are zero (R71)

The mask of a format, as R73 writes it, keeps the opcode and the bits that must be zero. -/

section Formats

variable {x : Fields} {i : Instr}

/-- A mask that keeps the opcode, and below it only bits that are zero, leaves the opcode alone. -/
theorem assemble_and_mask (m : Fields) (hop : m.op = BitVec.allOnes 6) (hf : x.f &&& m.f = 0)
    (hb : x.b &&& m.b = 0) (himm : x.imm &&& m.imm = 0) :
    assemble x &&& assemble m = assemble (fieldsN x.op.toNat) := by
  rw [assemble_and_assemble, hop, hf, hb, himm, BitVec.and_allOnes, fieldsN, BitVec.ofNat_toNat,
    BitVec.setWidth_eq]

/-- Where `f[0]` chooses between two commands, `f[1]` is zero in an accepted word. -/
theorem flagHigh_of_choice {f : BitVec 2} {i0 i1 : Instr} {e : DecodeError}
    (h : (if f = 0 then .ok i0 else if f = 1 then .ok i1 else .error e) = Except.ok i) :
    f &&& 2 = 0 := by
  split at h
  case isTrue h0 => rw [h0]; rfl
  case isFalse =>
    split at h
    case isTrue h1 => rw [h1]; rfl
    case isFalse => cases h

theorem mask_of_formatN {g : Instr} (h : formatN x g = .ok i) :
    assemble x &&& 0xFFFFFFFF#32 = assemble (fieldsN x.op.toNat) := by
  unfold formatN at h
  split at h
  case isTrue hzero =>
    obtain ⟨hf, hb, himm⟩ := hzero
    exact assemble_and_mask ⟨0x3F, 3, 0xFF, 0xFFFF⟩ rfl (by simp [hf]) (by simp [hb])
      (by simp [himm])
  case isFalse => cases h

theorem mask_of_formatNF {g0 g1 : Instr} (h : formatNF x g0 g1 = .ok i) :
    assemble x &&& 0xFEFFFFFF#32 = assemble (fieldsN x.op.toNat) := by
  unfold formatNF at h
  split at h
  case isTrue hzero =>
    obtain ⟨hb, himm⟩ := hzero
    exact assemble_and_mask ⟨0x3F, 2, 0xFF, 0xFFFF⟩ rfl (flagHigh_of_choice h) (by simp [hb])
      (by simp [himm])
  case isFalse => cases h

theorem mask_of_formatB {g : Byte → Instr} (h : formatB x g = .ok i) :
    assemble x &&& 0xFF00FFFF#32 = assemble (fieldsN x.op.toNat) := by
  unfold formatB at h
  split at h
  case isTrue hzero =>
    obtain ⟨hf, himm⟩ := hzero
    exact assemble_and_mask ⟨0x3F, 3, 0, 0xFFFF⟩ rfl (by simp [hf]) BitVec.and_zero
      (by simp [himm])
  case isFalse => cases h

theorem mask_of_formatBF {g0 g1 : Byte → Instr} (h : formatBF x g0 g1 = .ok i) :
    assemble x &&& 0xFE00FFFF#32 = assemble (fieldsN x.op.toNat) := by
  unfold formatBF at h
  split at h
  case isTrue himm =>
    exact assemble_and_mask ⟨0x3F, 2, 0, 0xFFFF⟩ rfl (flagHigh_of_choice h) BitVec.and_zero
      (by simp [himm])
  case isFalse => cases h

theorem mask_of_formatI {g : Half → Instr} (h : formatI x g = .ok i) :
    assemble x &&& 0xFFFF0000#32 = assemble (fieldsN x.op.toNat) := by
  unfold formatI at h
  split at h
  case isTrue hzero =>
    obtain ⟨hf, hb⟩ := hzero
    exact assemble_and_mask ⟨0x3F, 3, 0xFF, 0⟩ rfl (by simp [hf]) (by simp [hb]) BitVec.and_zero
  case isFalse => cases h

theorem mask_of_formatP {g : Byte → Byte → Byte → Instr} (h : formatP x g = .ok i) :
    assemble x &&& 0xFF000000#32 = assemble (fieldsN x.op.toNat) := by
  unfold formatP at h
  split at h
  case isTrue hf =>
    exact assemble_and_mask ⟨0x3F, 3, 0, 0⟩ rfl (by simp [hf]) BitVec.and_zero BitVec.and_zero
  case isFalse => cases h

theorem mask_of_formatPF {g0 g1 : Half → Byte → Instr} (h : formatPF x g0 g1 = .ok i) :
    assemble x &&& 0xFE000000#32 = assemble (fieldsN x.op.toNat) :=
  assemble_and_mask ⟨0x3F, 2, 0, 0⟩ rfl (flagHigh_of_choice h) BitVec.and_zero BitVec.and_zero

end Formats

/-! ### The rows of the table (R73) -/

/-- A word whose format leaves its opcode alone matches the row of that opcode, if the row has the
format's mask. -/
theorem exists_commandRow {x : Fields} {mask : Word} {op : Nat}
    (hmask : assemble x &&& mask = assemble (fieldsN x.op.toNat)) (hop : x.op.toNat = op)
    (hrow : ∃ row ∈ commandRows, row.mask = mask ∧ row.pattern = assemble (fieldsN op)) :
    ∃ row ∈ commandRows, assemble x &&& row.mask = row.pattern := by
  obtain ⟨row, hmem, rfl, hpattern⟩ := hrow
  exact ⟨row, hmem, by rw [hmask, hop, hpattern]⟩

/-- The opcode map, one case per opcode and the cases of one format together: the row of each opcode
has the mask of the format its words are decoded by. -/
theorem exists_commandRow_of_decodeFields {x : Fields} {i : Instr} (h : decodeFields x = .ok i) :
    ∃ row ∈ commandRows, assemble x &&& row.mask = row.pattern := by
  unfold decodeFields at h
  split at h
  case h_5 hop | h_6 hop | h_13 hop | h_16 hop | h_19 hop =>
    exact exists_commandRow (mask_of_formatN h) hop (by decide)
  case h_2 hop => exact exists_commandRow (mask_of_formatNF h) hop (by decide)
  case h_1 hop | h_4 hop | h_7 hop | h_14 hop | h_15 hop | h_20 hop =>
    exact exists_commandRow (mask_of_formatB h) hop (by decide)
  case h_3 hop => exact exists_commandRow (mask_of_formatBF h) hop (by decide)
  case h_8 hop | h_9 hop | h_11 hop | h_12 hop | h_18 hop =>
    exact exists_commandRow (mask_of_formatI h) hop (by decide)
  case h_10 hop => exact exists_commandRow (mask_of_formatP h) hop (by decide)
  case h_17 hop => exact exists_commandRow (mask_of_formatPF h) hop (by decide)
  case h_21 => cases h

/-- Only words of the table decode (R73, R74). -/
theorem exists_commandRow_of_decode {w : Word} {i : Instr} (h : decode w = .ok i) :
    ∃ row ∈ commandRows, w &&& row.mask = row.pattern := by
  rw [← assemble_fieldsOf w]
  exact exists_commandRow_of_decodeFields h

end Sys2Proof
end


section
/-! The illegal command word (spec/30_encoding.md R74). -/

namespace Sys2Proof.Machine

open Sys2Proof.Claims

/-- A write to CMD runs the word (R51, R70). -/
theorem step_of_host_cmd {s : State} {w : Word} {rest : List Event}
    (h : s.env.host = .wr cmdAddr w :: rest) : step s = runWord w (afterEvent s rest) := by
  simp [step, pending, h, commandOf, accept_of_host_cons h]

/-- A word that matches no row of the table has the illegal-command effect (R74). -/
theorem runWord_of_no_commandRow {w : Word}
    (hw : ∀ row ∈ commandRows, w &&& row.mask ≠ row.pattern) (s : State) :
    runWord w s = .next (s.setIll true) := by
  unfold runWord
  split
  case h_1 hdec =>
    obtain ⟨row, hmem, hmatch⟩ := exists_commandRow_of_decode hdec
    exact absurd hmatch (hw row hmem)
  case h_2 => rfl

/-- Settles O6: a word outside the table does not decode, so the step raises `ILL` in the state in
which the event is taken. -/
theorem illegalWordSetsIllAlone : Obligations.IllegalWordSetsIllAlone := by
  unfold Obligations.IllegalWordSetsIllAlone
  intro s w rest hwr hw
  refine ⟨(afterEvent s rest).setIll true, ?_, rfl, rfl, drewNothing_afterEvent s rest⟩
  rw [step_of_host_cmd hwr, runWord_of_no_commandRow hw]

end Sys2Proof.Machine
end


section
/-! The colour mixer, channel by channel (spec/40_color_mix.md R100, R102, R104). -/

namespace Sys2Proof.Machine

/-! ### `blend` (R100) -/

section Blend

variable (c1 c2 : Color)

@[simp] theorem blend_zero : blend c1 c2 0 = c1 := if_pos rfl

@[simp] theorem blend_full : blend c1 c2 255 = c2 := rfl

/-- The weights `255 - a` and `a` add up to the divisor, so a blended channel needs no clamp. -/
theorem weightedMean_lt {x y a : Nat} (hx : x < 256) (hy : y < 256) (ha : a ≤ 255) :
    (x * (255 - a) + y * a) / 255 < 256 := by
  have hx' : x * (255 - a) ≤ 255 * (255 - a) := Nat.mul_le_mul_right _ (Nat.le_of_lt_succ hx)
  have hy' : y * a ≤ 255 * a := Nat.mul_le_mul_right _ (Nat.le_of_lt_succ hy)
  omega

/-- The mean of a value with itself is that value, whatever the weights. -/
theorem weightedMean_self (x : Nat) {a : Nat} (ha : a ≤ 255) :
    (x * (255 - a) + x * a) / 255 = x := by
  rw [← Nat.mul_add, Nat.sub_add_cancel ha, Nat.mul_div_cancel x (by decide)]

/-- The formula covers the two ends, which the function returns as they are. -/
theorem chan_blend {amount : Nat} (ha : amount ≤ 255) (k : Channel) :
    chan k (blend c1 c2 amount) = (chan k c1 * (255 - amount) + chan k c2 * amount) / 255 := by
  unfold blend
  split
  case isTrue h0 => subst h0; omega
  case isFalse =>
    split
    case isTrue h255 => subst h255; omega
    case isFalse => exact chan_lanes_of_lt k _ (weightedMean_lt (chan_lt k c1) (chan_lt k c2) ha)

theorem blend_self (c : Color) {amount : Nat} (ha : amount ≤ 255) : blend c c amount = c :=
  color_ext fun k => (chan_blend c c ha k).trans (weightedMean_self (chan k c) ha)

end Blend

/-- Settles O27: the formula on each channel, and from it the blend of a colour with itself. -/
theorem blendInterpolatesEachChannel : Obligations.BlendInterpolatesEachChannel := by
  unfold Obligations.BlendInterpolatesEachChannel
  intro c1 c2 amount ha
  exact ⟨chan_blend c1 c2 ha, blend_zero c1 c2, blend_full c1 c2, blend_self c1 ha⟩

/-! ### The greatest channel sum (R102) -/

section Sums

variable (c1 c2 : Color)

theorem channelSum_le_maxSum (k : Channel) : channelSum c1 c2 k ≤ maxSum c1 c2 := by
  unfold maxSum
  cases k <;> omega

theorem exists_channelSum_eq_maxSum : ∃ k, channelSum c1 c2 k = maxSum c1 c2 := by
  unfold maxSum
  rcases max_choice (max (channelSum c1 c2 .W) (channelSum c1 c2 .R))
    (max (channelSum c1 c2 .G) (channelSum c1 c2 .B)) with h | h <;> rw [h]
  · rcases max_choice (channelSum c1 c2 .W) (channelSum c1 c2 .R) with h | h
    exacts [⟨.W, h.symm⟩, ⟨.R, h.symm⟩]
  · rcases max_choice (channelSum c1 c2 .G) (channelSum c1 c2 .B) with h | h
    exacts [⟨.G, h.symm⟩, ⟨.B, h.symm⟩]

variable {c1 c2} in
/-- A bound of the channel sums that one of them reaches is the greatest sum. -/
theorem maxSum_eq {m : Nat} (hle : ∀ k, channelSum c1 c2 k ≤ m)
    (hmem : ∃ k, channelSum c1 c2 k = m) : maxSum c1 c2 = m := by
  obtain ⟨i, hi⟩ := exists_channelSum_eq_maxSum c1 c2
  obtain ⟨j, hj⟩ := hmem
  exact Nat.le_antisymm (hi ▸ hle i) (hj ▸ channelSum_le_maxSum c1 c2 j)

theorem channelSum_comm : channelSum c1 c2 = channelSum c2 c1 :=
  funext fun k => Nat.add_comm (chan k c1) (chan k c2)

theorem maxSum_comm : maxSum c1 c2 = maxSum c2 c1 := by
  simp only [maxSum, channelSum_comm c1 c2]

/-- With a zero operand the sums are the other colour's channels, and none is above 255. -/
theorem maxSum_zero_left_le (c : Color) : maxSum 0 c ≤ 255 := by
  obtain ⟨k, hk⟩ := exists_channelSum_eq_maxSum 0 c
  rw [← hk, channelSum, chan_zero, Nat.zero_add]
  exact Nat.le_of_lt_succ (chan_lt k c)

theorem maxSum_zero_right_le (c : Color) : maxSum c 0 ≤ 255 :=
  maxSum_comm c 0 ▸ maxSum_zero_left_le c

end Sums

/-! ### `add` (R102) -/

section Add

variable (c1 c2 : Color)

theorem clamp8_lt (y : Nat) : clamp8 y < 256 := Nat.lt_succ_of_le (min_le_right y 255)

/-- Clamping leaves a channel as it is. -/
theorem clamp8_chan (k : Channel) (c : Color) : clamp8 (chan k c) = chan k c :=
  min_eq_left (Nat.le_of_lt_succ (chan_lt k c))

@[simp] theorem add_zero_left (c : Color) (p : Bool) : add 0 c p = c := if_pos rfl

@[simp] theorem add_zero_right (c : Color) (p : Bool) : add c 0 p = c := by
  unfold add
  split
  case isTrue h => exact h.symm
  case isFalse => exact if_pos rfl

/-- The clamped sum covers the zero operands, which the function tests for first. -/
theorem chan_add_false (k : Channel) :
    chan k (add c1 c2 false) = clamp8 (channelSum c1 c2 k) := by
  by_cases h1 : c1 = 0
  · rw [h1, add_zero_left, channelSum, chan_zero, Nat.zero_add, clamp8_chan]
  by_cases h2 : c2 = 0
  · rw [h2, add_zero_right, channelSum, chan_zero, Nat.add_zero, clamp8_chan]
  rw [add, if_neg h1, if_neg h2, if_neg (by simp), chan_lanes_of_lt k _ (clamp8_lt _)]

variable {c1 c2} in
/-- Where no sum is above 255 there is no ratio to keep. -/
theorem add_true_of_maxSum_le (h : maxSum c1 c2 ≤ 255) : add c1 c2 true = add c1 c2 false := by
  simp [add, Nat.not_lt.2 h]

/-- Scaled by 255 over the greatest sum, no channel needs the clamp. -/
theorem clamp8_scaledSum (k : Channel) :
    clamp8 (channelSum c1 c2 k * 255 / maxSum c1 c2) =
      channelSum c1 c2 k * 255 / maxSum c1 c2 :=
  min_eq_left (Nat.div_le_of_le_mul (Nat.mul_le_mul_right 255 (channelSum_le_maxSum c1 c2 k)))

variable {c1 c2} in
/-- A greatest sum above 255 excludes the zero operands. -/
theorem chan_add_true (h : 255 < maxSum c1 c2) (k : Channel) :
    chan k (add c1 c2 true) = channelSum c1 c2 k * 255 / maxSum c1 c2 := by
  have h1 : c1 ≠ 0 := by
    rintro rfl
    exact Nat.not_lt.2 (maxSum_zero_left_le c2) h
  have h2 : c2 ≠ 0 := by
    rintro rfl
    exact Nat.not_lt.2 (maxSum_zero_right_le c1) h
  rw [add, if_neg h1, if_neg h2, if_pos ⟨rfl, h⟩, chan_lanes_of_lt k _ (clamp8_lt _),
    clamp8_scaledSum]

variable {c1 c2} in
/-- The channel of the greatest sum is scaled to 255. -/
theorem exists_chan_add_true_eq_full (h : 255 < maxSum c1 c2) :
    ∃ k, chan k (add c1 c2 true) = 255 := by
  obtain ⟨k, hk⟩ := exists_channelSum_eq_maxSum c1 c2
  exact ⟨k, by rw [chan_add_true h, hk, Nat.mul_div_cancel_left 255 (by omega)]⟩

/-- The order of the operands of `add` does not matter. -/
theorem add_operands_comm (p : Bool) : add c1 c2 p = add c2 c1 p := by
  by_cases h1 : c1 = 0
  · rw [h1, add_zero_left, add_zero_right]
  by_cases h2 : c2 = 0
  · rw [h2, add_zero_left, add_zero_right]
  simp only [add, if_neg h1, if_neg h2, channelSum_comm c1 c2, maxSum_comm c1 c2]

end Add

/-- Settles O28: `m` is the greatest sum of the model, so the two cases of `preserveRatio` are the
model's. -/
theorem addClampsOrKeepsTheRatio : Obligations.AddClampsOrKeepsTheRatio := by
  unfold Obligations.AddClampsOrKeepsTheRatio
  intro c1 c2 m hle hmem
  obtain rfl : maxSum c1 c2 = m := maxSum_eq hle hmem
  exact ⟨chan_add_false c1 c2, add_true_of_maxSum_le,
    fun h => ⟨chan_add_true h, exists_chan_add_true_eq_full h⟩,
    fun p => ⟨add_zero_left c2 p, add_zero_right c1 p, add_operands_comm c1 c2 p⟩⟩

/-! ### `fadeToBlack` (R104) -/

section Fade

@[simp] theorem fadeToBlack_zero (c : Color) (video : Bool) : fadeToBlack c 0 video = 0 :=
  if_pos rfl

@[simp] theorem fadeToBlack_full (c : Color) (video : Bool) : fadeToBlack c 255 video = c := rfl

variable {x amount : Nat} (video : Bool)

/-- The scale `(amount + 1) / 256` as the rule writes it, with a shift. -/
theorem fadeChannel_eq_shift (x amount : Nat) :
    fadeChannel x amount video =
      if video = true ∧ x ≠ 0 ∧ (x * (amount + 1)) >>> 8 < 1 then 1
      else (x * (amount + 1)) >>> 8 := by
  rw [Nat.shiftRight_eq_div_pow]
  rfl

/-- A fade never brightens a channel: the video floor applies only to a lit one. -/
theorem fadeChannel_le (x : Nat) (ha : amount ≤ 255) : fadeChannel x amount video ≤ x := by
  have hscale : x * (amount + 1) ≤ x * 256 := Nat.mul_le_mul_left x (by omega)
  rw [fadeChannel_eq_shift]
  split <;> omega

/-- Below the full amount a channel above the video floor drops. -/
theorem fadeChannel_lt (hx : 1 < x) (ha : amount < 255) : fadeChannel x amount video < x := by
  have hscale : x * (amount + 1) < x * 256 := Nat.mul_lt_mul_of_pos_left (by omega) (by omega)
  rw [fadeChannel_eq_shift]
  split <;> omega

theorem chan_fadeToBlack (c : Color) (h1 : 1 ≤ amount) (h254 : amount ≤ 254) (k : Channel) :
    chan k (fadeToBlack c amount video) = fadeChannel (chan k c) amount video := by
  rw [fadeToBlack, if_neg (by omega), if_neg (by omega)]
  exact chan_lanes_of_lt k _ (Nat.lt_of_le_of_lt (fadeChannel_le video _ (by omega)) (chan_lt k c))

end Fade

/-- Settles O29: between the ends every channel is `fadeChannel` of the old one, and a full channel
is above the video floor. -/
theorem fadeToBlackScalesEachChannel : Obligations.FadeToBlackScalesEachChannel := by
  unfold Obligations.FadeToBlackScalesEachChannel
  intro c amount video
  refine ⟨fadeToBlack_zero c video, fadeToBlack_full c video, fun h1 h254 k => ?_⟩
  rw [chan_fadeToBlack video c h1 h254 k]
  refine ⟨fadeChannel_eq_shift video _ _, fun hfull => ?_⟩
  rw [hfull]
  exact fadeChannel_lt video (by decide) (by omega)

end Sys2Proof.Machine
end


section
/-! The hue unit: the wheel, HSV to RGB and back (spec/41_hue_hsv.md R110, R112, R114). -/

namespace Sys2Proof.Machine

/-- A built colour reads back channel by channel when the values fit (R10). -/
theorem chan_mkColor_of_lt {r g b : Nat} (hr : r < 256) (hg : g < 256) (hb : b < 256) :
    chan .W (mkColor 0 r g b) = 0 ∧ chan .R (mkColor 0 r g b) = r ∧
      chan .G (mkColor 0 r g b) = g ∧ chan .B (mkColor 0 r g b) = b := by
  have h := chan_mkColor 0 r g b
  rwa [Nat.zero_mod, Nat.mod_eq_of_lt hr, Nat.mod_eq_of_lt hg, Nat.mod_eq_of_lt hb] at h

/-! ### `hueWheel` (R110) -/

/-- A channel of the wheel as one formula for the whole turn: red and blue rise and fall, green
falls and rises. A subtraction of naturals stops at 0, which keeps each ramp inside its own bands. -/
def wheelRamp : Channel → Nat → Nat
  | .W, _ => 0
  | .R, pos => min (3 * pos) (255 - 3 * (pos - 85))
  | .G, pos => max (255 - 3 * pos) (3 * (pos - 170))
  | .B, pos => min (3 * (pos - 85)) (255 - 3 * (pos - 170))

section Bands

variable {pos : Nat}

theorem wheelRamp_first_band (h : pos < 85) :
    wheelRamp .R pos = 3 * pos ∧ wheelRamp .G pos = 255 - 3 * pos ∧ wheelRamp .B pos = 0 := by
  simp only [wheelRamp]
  omega

theorem wheelRamp_second_band (h85 : 85 ≤ pos) (h170 : pos < 170) :
    wheelRamp .R pos = 255 - 3 * (pos - 85) ∧ wheelRamp .G pos = 0 ∧
      wheelRamp .B pos = 3 * (pos - 85) := by
  simp only [wheelRamp]
  omega

theorem wheelRamp_third_band (h170 : 170 ≤ pos) (hpos : pos ≤ 255) :
    wheelRamp .R pos = 0 ∧ wheelRamp .G pos = 3 * (pos - 170) ∧
      wheelRamp .B pos = 255 - 3 * (pos - 170) := by
  simp only [wheelRamp]
  omega

/-- The three bands are pieces of the ramps. -/
theorem hueWheel_eq_ramps (hpos : pos ≤ 255) :
    hueWheel pos = mkColor 0 (wheelRamp .R pos) (wheelRamp .G pos) (wheelRamp .B pos) := by
  unfold hueWheel
  split
  case isTrue h85 =>
    obtain ⟨hR, hG, hB⟩ := wheelRamp_first_band h85
    rw [hR, hG, hB]
  case isFalse h85 =>
    split
    case isTrue h170 =>
      obtain ⟨hR, hG, hB⟩ := wheelRamp_second_band (Nat.not_lt.1 h85) h170
      rw [hR, hG, hB]
    case isFalse h170 =>
      obtain ⟨hR, hG, hB⟩ := wheelRamp_third_band (Nat.not_lt.1 h170) hpos
      rw [hR, hG, hB]

theorem wheelRamp_lt (hpos : pos ≤ 255) (k : Channel) : wheelRamp k pos < 256 := by
  cases k <;> simp only [wheelRamp] <;> omega

theorem chan_hueWheel (hpos : pos ≤ 255) (k : Channel) :
    chan k (hueWheel pos) = wheelRamp k pos := by
  obtain ⟨hw, hr, hg, hb⟩ := chan_mkColor_of_lt (wheelRamp_lt hpos .R) (wheelRamp_lt hpos .G)
    (wheelRamp_lt hpos .B)
  rw [hueWheel_eq_ramps hpos]
  cases k <;> assumption

/-- No ramp jumps, so neither does the wheel at the ends of its bands. -/
theorem wheelRamp_succ (hpos : pos < 255) (k : Channel) :
    wheelRamp k (pos + 1) = wheelRamp k pos ∨ wheelRamp k (pos + 1) = wheelRamp k pos + 3 ∨
      wheelRamp k (pos + 1) + 3 = wheelRamp k pos := by
  cases k
  case W => exact .inl rfl
  all_goals
    simp only [wheelRamp]
    omega

end Bands

/-- Settles O31: every channel is its ramp, and the bands and the step are facts about the ramps. -/
theorem hueWheelHasThreeBands : Obligations.HueWheelHasThreeBands := by
  unfold Obligations.HueWheelHasThreeBands
  intro pos hpos
  simp only [chan_hueWheel hpos]
  refine ⟨rfl, wheelRamp_first_band, wheelRamp_second_band, fun h170 =>
    wheelRamp_third_band h170 hpos, fun hlt k => ?step, rfl, rfl, rfl⟩
  case step =>
    rw [chan_hueWheel hlt]
    exact wheelRamp_succ hlt k

/-! ### `hsvToRgb` (R112) -/

/-- The permutation of `v`, `p`, `q`, `t` that a region selects. -/
def sectorColor (region v p q t : Nat) : Color :=
  match region with
  | 0 => mkColor 0 v t p
  | 1 => mkColor 0 q v p
  | 2 => mkColor 0 p v t
  | 3 => mkColor 0 p q v
  | 4 => mkColor 0 t p v
  | _ => mkColor 0 v p q

theorem hsvToRgb_gray (h v : Nat) : hsvToRgb h 0 v = mkColor 0 v v v := rfl

/-- The interpolation as the rule writes it, with shifts. -/
theorem hsvToRgb_of_ne_zero {s : Nat} (hs : s ≠ 0) (h v : Nat) :
    hsvToRgb h s v =
      let rem := ((h - h / 10923 * 10923) * 6) >>> 8
      sectorColor (h / 10923) v ((v * (255 - s)) >>> 8) ((v * (255 - ((s * rem) >>> 8))) >>> 8)
        ((v * (255 - ((s * (255 - rem)) >>> 8))) >>> 8) := by
  rw [hsvToRgb, if_neg hs]
  simp only [Nat.shiftRight_eq_div_pow]
  rfl

/-- A value dimmed by a weight of at most 255 still fits in a channel. -/
theorem shifted_product_lt {v : Nat} (hv : v < 256) (s : Nat) : (v * (255 - s)) >>> 8 < 256 := by
  have hle : v * (255 - s) ≤ 255 * 255 := Nat.mul_le_mul (by omega) (by omega)
  rw [Nat.shiftRight_eq_div_pow]
  omega

theorem chan_W_sectorColor (region v p q t : Nat) : chan .W (sectorColor region v p q t) = 0 := by
  unfold sectorColor
  split <;> exact (chan_mkColor ..).1

/-- The six permutations, as a table. -/
theorem sectorColor_channels {region v p q t : Nat} (hregion : region < 6) (hv : v < 256)
    (hp : p < 256) (hq : q < 256) (ht : t < 256) :
    [(v, t, p), (q, v, p), (p, v, t), (p, q, v), (t, p, v), (v, p, q)][region]? =
      some (chan .R (sectorColor region v p q t), chan .G (sectorColor region v p q t),
        chan .B (sectorColor region v p q t)) := by
  have hchan : ∀ {r g b : Nat}, r < 256 → g < 256 → b < 256 →
      some (r, g, b) = some (chan .R (mkColor 0 r g b), chan .G (mkColor 0 r g b),
        chan .B (mkColor 0 r g b)) := fun hr hg hb => by
    obtain ⟨-, hR, hG, hB⟩ := chan_mkColor_of_lt hr hg hb
    rw [hR, hG, hB]
  match region, hregion with
  | 0, _ => exact hchan hv ht hp
  | 1, _ => exact hchan hq hv hp
  | 2, _ => exact hchan hp hv ht
  | 3, _ => exact hchan hp hq hv
  | 4, _ => exact hchan ht hp hv
  | 5, _ => exact hchan hv hp hq

/-- Settles O32: the gray case is one colour, and every hue below 65536 lies in one of the six
regions. -/
theorem hsvToRgbInterpolatesInItsRegion : Obligations.HsvToRgbInterpolatesInItsRegion := by
  unfold Obligations.HsvToRgbInterpolatesInItsRegion
  intro h s v hh _ hv
  rcases eq_or_ne s 0 with rfl | hs
  · obtain ⟨hW, hRGB⟩ := chan_mkColor_of_lt hv hv hv
    rw [hsvToRgb_gray]
    exact ⟨hW, fun _ => hRGB, fun hs => absurd rfl hs⟩
  · rw [hsvToRgb_of_ne_zero hs]
    exact ⟨chan_W_sectorColor .., fun h0 => absurd h0 hs, fun _ =>
      sectorColor_channels (by omega) hv (shifted_product_lt hv _) (shifted_product_lt hv _)
        (shifted_product_lt hv _)⟩

/-! ### `rgbToHsv` (R114) -/

theorem maskHue_lt (y : Int) : maskHue y < 65536 := by
  simp only [maskHue, hueBits_eq]
  omega

/-- The mask is the floor remainder, also of a negative hue (R8). -/
theorem maskHue_eq_fmod (y : Int) : (maskHue y : Int) = y.fmod 65536 := by
  rw [Int.fmod_eq_emod_of_nonneg y (by decide)]
  simp only [maskHue, hueBits_eq]
  omega

section RawHue

variable {r g b mx : Nat} (d : Nat)

theorem rawHue_red (hr : mx = r) :
    rawHue r g b mx d = Int.fdiv (10923 * ((g : Int) - b)) d := by
  rw [rawHue, if_pos hr, hueRegion_eq, Int.fdiv_eq_ediv_of_nonneg _ (Int.natCast_nonneg d)]
  rfl

theorem rawHue_green (hr : mx ≠ r) (hg : mx = g) :
    rawHue r g b mx d = 21846 + Int.fdiv (10923 * ((b : Int) - r)) d := by
  rw [rawHue, if_neg hr, if_pos hg, hueRegion_eq,
    Int.fdiv_eq_ediv_of_nonneg _ (Int.natCast_nonneg d)]
  rfl

theorem rawHue_blue (hr : mx ≠ r) (hg : mx ≠ g) :
    rawHue r g b mx d = 43692 + Int.fdiv (10923 * ((r : Int) - g)) d := by
  rw [rawHue, if_neg hr, if_neg hg, hueRegion_eq,
    Int.fdiv_eq_ediv_of_nonneg _ (Int.natCast_nonneg d)]
  rfl

end RawHue

section Spread

variable (c : Color)

/-- `mx`: the greatest of the three colour channels. -/
def maxChan : Nat := max (chan .R c) (max (chan .G c) (chan .B c))

/-- `d = mx - mn`: how far the three colour channels lie apart. -/
def spread : Nat := maxChan c - min (chan .R c) (min (chan .G c) (chan .B c))

theorem maxChan_le : maxChan c ≤ 255 := by
  have hle (k : Channel) : chan k c ≤ 255 := Nat.le_of_lt_succ (chan_lt k c)
  exact max_le (hle .R) (max_le (hle .G) (hle .B))

theorem spread_le_maxChan : spread c ≤ maxChan c := Nat.sub_le _ _

theorem saturation_le : 255 * spread c / maxChan c ≤ 255 :=
  Nat.div_le_of_le_mul <| by
    rw [Nat.mul_comm (maxChan c)]
    exact Nat.mul_le_mul_left 255 (spread_le_maxChan c)

/-- Black needs no case of its own: its channels do not differ, and a division by 0 gives 0. -/
theorem rgbToHsv_eq :
    rgbToHsv c =
      (maskHue (if spread c = 0 then 0
        else rawHue (chan .R c) (chan .G c) (chan .B c) (maxChan c) (spread c)),
        255 * spread c / maxChan c, maxChan c) := by
  by_cases hblack : maxChan c = 0
  · have hd : spread c = 0 := Nat.le_zero.1 (hblack ▸ spread_le_maxChan c)
    rw [hd, hblack]
    exact if_pos hblack
  · exact if_neg hblack

theorem rgbToHsv_hue_gray (hd : spread c = 0) : (rgbToHsv c).1 = 0 := by
  rw [rgbToHsv_eq, if_pos hd]
  rfl

theorem rgbToHsv_hue_of_rawHue (hd : spread c ≠ 0) {y : Int}
    (hy : rawHue (chan .R c) (chan .G c) (chan .B c) (maxChan c) (spread c) = y) :
    ((rgbToHsv c).1 : Int) = y.fmod 65536 := by
  rw [rgbToHsv_eq, if_neg hd, maskHue_eq_fmod, hy]

end Spread

/-- Settles O33: value and saturation are the last two fields of `rgbToHsv_eq`, and the hue of a
colour that is not gray is the floor remainder of `rawHue`, by its greatest channel. -/
theorem rgbToHsvFloorsAndMasksTheHue : Obligations.RgbToHsvFloorsAndMasksTheHue := by
  unfold Obligations.RgbToHsvFloorsAndMasksTheHue
  intro c
  have hval : (rgbToHsv c).2.2 = maxChan c := by rw [rgbToHsv_eq]
  have hsat : (rgbToHsv c).2.1 = 255 * spread c / maxChan c := by rw [rgbToHsv_eq]
  have hhue : (rgbToHsv c).1 < 65536 := by rw [rgbToHsv_eq]; exact maskHue_lt _
  refine ⟨hval, hhue, hsat ▸ saturation_le c, maxChan_le c, fun hblack => ?black, fun _ => hsat,
    rgbToHsv_hue_gray c, fun hd hr => ?red, fun hd hr hg => ?green, fun hd hr hg => ?blue⟩
  case black => exact hsat.trans (Nat.div_eq_zero_iff.2 (.inl hblack))
  case red => exact rgbToHsv_hue_of_rawHue c hd (rawHue_red _ hr)
  case green => exact rgbToHsv_hue_of_rawHue c hd (rawHue_green _ hr hg)
  case blue => exact rgbToHsv_hue_of_rawHue c hd (rawHue_blue _ hr hg)

end Sys2Proof.Machine
end


section
/-! The wave unit: the sine table, `sin16` by quadrant, and the triangle wave (spec/42_wave.md R120,
R121, R125). -/

namespace Sys2Proof.Machine

/-! ### The rising quarter (R120, R121) -/

/-- The table never falls, so the model's natural subtraction of neighbouring entries is exact. -/
theorem sinTable_le_succ {i : Nat} (hi : i < 64) : sinTable i ≤ sinTable (i + 1) := by
  have htable : ∀ j < 64, sinTable j ≤ sinTable (j + 1) := by decide
  exact htable i hi

/-- The top of the quarter is the last entry of the table, with nothing to interpolate. -/
theorem quarterSine_top : quarterSine 16384 = 32767 := rfl

/-- An arithmetic shift rounds toward minus infinity (R8). The amount is an integer here, as Lean
reads the literal in `x >>> 8` for an integer `x`. -/
theorem int_shiftRight_eight (y : Int) : y >>> (8 : Int) = y / 256 :=
  (Int.shiftRight_natCast_right y 8).trans (Int.shiftRight_eq_div_pow y 8)

section Quadrants

variable {o : Nat}

theorem quarterSine_of_lt (ho : o < 16384) :
    quarterSine o =
      sinTable (o / 256) + (sinTable (o / 256 + 1) - sinTable (o / 256)) * (o % 256) / 256 :=
  if_neg (by omega)

/-- The interpolation as the rule writes it, over the integers and with shifts. -/
theorem quarterSine_eq_shift (ho : o < 16384) :
    (quarterSine o : Int) =
      sinTable (o >>> 8) +
        ((((sinTable (o >>> 8 + 1) : Int) - sinTable (o >>> 8)) * ((o &&& 0xFF : Nat) : Int)) >>>
          8) := by
  have hidx : o >>> 8 = o / 256 := Nat.shiftRight_eq_div_pow o 8
  have hfrac : o &&& 0xFF = o % 256 := Nat.and_two_pow_sub_one_eq_mod o 8
  have hrise : sinTable (o / 256) ≤ sinTable (o / 256 + 1) := sinTable_le_succ (by omega)
  rw [quarterSine_of_lt ho, hidx, hfrac, int_shiftRight_eight, ← Nat.cast_sub hrise]
  push_cast
  rfl

/-! ### `sin16` by quadrant (R121) -/

theorem sin16_first_quadrant (ho : o < 16384) : sin16 o = quarterSine o := by
  have hquad : o / 16384 = 0 := Nat.div_eq_of_lt ho
  have hoff : o % 16384 = o := Nat.mod_eq_of_lt ho
  simp [sin16, hquad, hoff]

theorem sin16_second_quadrant (ho : o < 16384) :
    sin16 (16384 + o) = quarterSine (16384 - o) := by
  have hquad : (16384 + o) / 16384 = 1 := by omega
  have hoff : (16384 + o) % 16384 = o := by omega
  simp [sin16, hquad, hoff]

/-- Half a turn keeps the parity of the quadrant and the offset in it, and flips the sign. -/
theorem sin16_half_turn_add (ho : o < 32768) : sin16 (32768 + o) = -sin16 o := by
  have hquad : (32768 + o) / 16384 = o / 16384 + 2 := by omega
  have hparity : (o / 16384 + 2) % 2 = o / 16384 % 2 := Nat.add_mod_right _ 2
  have hoff : (32768 + o) % 16384 = o % 16384 := by omega
  have hfirst : o / 16384 < 2 := by omega
  have hsecond : ¬o / 16384 + 2 < 2 := by omega
  simp only [sin16, hquad, hparity, hoff, if_pos hfirst, if_neg hsecond]

/-- At `o = 0` the mirror image lies in the third quadrant, where the sine is 0 as well. -/
theorem sin16_half_turn_sub (ho : o < 16384) : sin16 (32768 - o) = sin16 o := by
  rcases Nat.eq_zero_or_pos o with rfl | hpos
  · calc sin16 (32768 - 0) = -sin16 0 := sin16_half_turn_add (o := 0) (by decide)
      _ = sin16 0 := rfl
  · have hmirror : 32768 - o = 16384 + (16384 - o) := by omega
    have hback : 16384 - (16384 - o) = o := by omega
    rw [hmirror, sin16_second_quadrant (by omega), hback, sin16_first_quadrant ho]

end Quadrants

/-- Settles O35: the first quadrant is the rising quarter, and the other three are its mirror image
and the negation of both. -/
theorem sin16InterpolatesTheTable : Obligations.Sin16InterpolatesTheTable := by
  unfold Obligations.Sin16InterpolatesTheTable
  refine ⟨fun o ho => ?interpolation, ?top, fun o => sin16_half_turn_sub,
    fun o => sin16_half_turn_add⟩
  case interpolation => exact (sin16_first_quadrant ho).trans (quarterSine_eq_shift ho)
  case top =>
    calc sin16 16384 = quarterSine (16384 - 0) := sin16_second_quadrant (o := 0) (by decide)
      _ = 32767 := congrArg Nat.cast quarterSine_top

/-! ### `triangleWave16` (R125) -/

section Ramps

variable {x : Nat}

theorem triangleWave16_rising (hx : x < 0x8000) : triangleWave16 x = 2 * x := if_pos hx

theorem triangleWave16_falling (hx : 0x8000 ≤ x) :
    triangleWave16 x = 0xFFFF - 2 * (x - 0x8000) := if_neg (Nat.not_lt.2 hx)

end Ramps

/-- Settles O37: each clause compares two points of one ramp, except the symmetry, which compares a
point of the falling ramp with one of the rising ramp. -/
theorem triangleWaveIsTwoRamps : Obligations.TriangleWaveIsTwoRamps := by
  unfold Obligations.TriangleWaveIsTwoRamps
  refine ⟨triangleWave16_rising (by decide), triangleWave16_rising (by decide),
    triangleWave16_falling (by decide), triangleWave16_falling (by decide),
    fun x hx => ⟨fun hup => ?rise, fun hdown => ?fall, fun hup => ?symmetry⟩⟩
  case rise =>
    rw [triangleWave16_rising (x := x + 1) (by omega), triangleWave16_rising (x := x) (by omega)]
    omega
  case fall =>
    rw [triangleWave16_falling hdown, triangleWave16_falling (x := x + 1) (by omega)]
    omega
  case symmetry =>
    rw [triangleWave16_falling (by omega), triangleWave16_rising hup]
    omega

end Sys2Proof.Machine
end

section
/-! The palette unit: interpolation between stops, selection and brightness (spec/43_palette.md R130 to
R133). -/

namespace Sys2Proof.Machine

/-! ### Rising stop lists (R130) -/

theorem stopsRising_cons_cons {p q : Stop} {rest : List Stop} :
    stopsRising (p :: q :: rest) = true ↔
      p.pos.toNat < q.pos.toNat ∧ stopsRising (q :: rest) = true := by
  simp only [stopsRising, Bool.and_eq_true, decide_eq_true_eq]

/-- The first stop of a rising list is the lowest. -/
theorem head_pos_le_of_stopsRising {p x : Stop} {rest : List Stop}
    (hrise : stopsRising (p :: rest) = true) (hx : x ∈ p :: rest) : p.pos.toNat ≤ x.pos.toNat := by
  induction rest generalizing p with
  | nil => rw [List.mem_singleton.1 hx]
  | cons q rest ih =>
    obtain ⟨hpq, hrise'⟩ := stopsRising_cons_cons.1 hrise
    obtain rfl | hx' := List.mem_cons.1 hx
    · exact Nat.le_refl _
    · exact Nat.le_trans (Nat.le_of_lt hpq) (ih hrise' hx')

/-! ### Between two neighbouring stops (R132) -/

section Between

variable {p q : Stop} {pos : Nat}

/-- The weights add up to the span, so an interpolated channel needs no clamp. -/
theorem spanMean_lt {x y span d : Nat} (hx : x < 256) (hy : y < 256) (hd : d < span) :
    (x * (span - d) + y * d) / span < 256 := by
  have hle : x * (span - d) + y * d ≤ span * 255 :=
    calc x * (span - d) + y * d
        ≤ 255 * (span - d) + 255 * d :=
          Nat.add_le_add (Nat.mul_le_mul_right _ (Nat.le_of_lt_succ hx))
            (Nat.mul_le_mul_right _ (Nat.le_of_lt_succ hy))
      _ = span * 255 := by omega
  exact Nat.lt_succ_of_le (Nat.div_le_of_le_mul hle)

theorem chan_between (hp : p.pos.toNat ≤ pos) (hq : pos < q.pos.toNat) (k : Channel) :
    chan k (between p q pos) =
      (chan k p.color * ((q.pos.toNat - p.pos.toNat) - (pos - p.pos.toNat)) +
        chan k q.color * (pos - p.pos.toNat)) / (q.pos.toNat - p.pos.toNat) := by
  have hd : pos - p.pos.toNat < q.pos.toNat - p.pos.toNat := by omega
  rw [between, chan_lanes_of_lt]
  exact spanMean_lt (chan_lt k p.color) (chan_lt k q.color) hd

/-- At its first stop a span has that stop's colour exactly. -/
theorem between_first (hpq : p.pos.toNat < q.pos.toNat) : between p q p.pos.toNat = p.color :=
  color_ext fun k => by
    rw [chan_between (Nat.le_refl _) hpq, Nat.sub_self, Nat.sub_zero, Nat.mul_zero, Nat.add_zero,
      Nat.mul_div_cancel _ (Nat.sub_pos_of_lt hpq)]

end Between

/-! ### `palInterp` (R132) -/

section Interp

variable {p : Stop} {rest : List Stop} {pos : Nat}

theorem interpFrom_cons_of_lt {q : Stop} (h : pos < q.pos.toNat) :
    interpFrom p pos (q :: rest) = between p q pos := if_pos h

theorem interpFrom_cons_of_le {q : Stop} (h : q.pos.toNat ≤ pos) :
    interpFrom p pos (q :: rest) = interpFrom q pos rest := if_neg (Nat.not_lt.2 h)

/-- At the stop it starts from, the interpolation gives that stop's colour. -/
theorem interpFrom_first (hrise : stopsRising (p :: rest) = true) :
    interpFrom p p.pos.toNat rest = p.color := by
  cases rest with
  | nil => rfl
  | cons q rest =>
    have hpq := (stopsRising_cons_cons.1 hrise).1
    rw [interpFrom_cons_of_lt hpq, between_first hpq]

theorem interpFrom_after_last (hrise : stopsRising (p :: rest) = true) {last : Stop}
    (hlast : (p :: rest).getLast? = some last) (hpos : last.pos.toNat ≤ pos) :
    interpFrom p pos rest = last.color := by
  induction rest generalizing p with
  | nil =>
    obtain rfl : p = last := Option.some.inj hlast
    rfl
  | cons q rest ih =>
    rw [List.getLast?_cons_cons] at hlast
    have hrise' := (stopsRising_cons_cons.1 hrise).2
    have hq := head_pos_le_of_stopsRising hrise' (List.mem_of_getLast? hlast)
    rw [interpFrom_cons_of_le (Nat.le_trans hq hpos)]
    exact ih hrise' hlast

/-- The search skips every stop up to `a`, as the positions rise, and stops at its neighbour `b`. -/
theorem interpFrom_eq_between (hrise : stopsRising (p :: rest) = true) {n : Nat} {a b : Stop}
    (ha : (p :: rest)[n]? = some a) (hb : (p :: rest)[n + 1]? = some b)
    (hapos : a.pos.toNat ≤ pos) (hposb : pos < b.pos.toNat) :
    interpFrom p pos rest = between a b pos := by
  induction rest generalizing p n with
  | nil => simp at hb
  | cons q rest ih =>
    have hrise' := (stopsRising_cons_cons.1 hrise).2
    cases n with
    | zero =>
      obtain rfl : p = a := Option.some.inj ha
      obtain rfl : q = b := Option.some.inj hb
      exact interpFrom_cons_of_lt hposb
    | succ n =>
      rw [List.getElem?_cons_succ] at ha hb
      have hq := head_pos_le_of_stopsRising hrise' (List.mem_of_getElem? ha)
      rw [interpFrom_cons_of_le (Nat.le_trans hq hapos)]
      exact ih hrise' ha hb

end Interp

theorem palInterp_before_first {p : Palette} {pos : Nat} (h : pos ≤ p.first.pos.toNat) :
    palInterp p pos = p.first.color := if_pos h

/-- The search agrees with the held colour at the first stop, so it covers every position from there. -/
theorem palInterp_eq_interpFrom {p : Palette} {pos : Nat} (hwf : p.wf = true)
    (h : p.first.pos.toNat ≤ pos) : palInterp p pos = interpFrom p.first pos p.rest := by
  obtain rfl | hlt := Nat.eq_or_lt_of_le h
  · rw [palInterp_before_first h, interpFrom_first hwf]
  · exact if_neg (Nat.not_le.2 hlt)

/-- Settles O39: from the first stop on the result is the search's, by induction on the stops. -/
theorem paletteInterpolatesBetweenNeighbours : Obligations.PaletteInterpolatesBetweenNeighbours := by
  unfold Obligations.PaletteInterpolatesBetweenNeighbours
  intro p pos hwf _
  have from_stop {x : Stop} (hx : x ∈ p.stops) (hpos : x.pos.toNat ≤ pos) :
      palInterp p pos = interpFrom p.first pos p.rest :=
    palInterp_eq_interpFrom hwf (Nat.le_trans (head_pos_le_of_stopsRising hwf hx) hpos)
  refine ⟨palInterp_before_first, fun last hlast hpos => ?last,
    fun n a b ha hb hapos hposb k => ?span⟩
  case last =>
    rw [from_stop (List.mem_of_getLast? hlast) hpos, interpFrom_after_last hwf hlast hpos]
  case span =>
    rw [from_stop (List.mem_of_getElem? ha) hapos, interpFrom_eq_between hwf ha hb hapos hposb,
      chan_between hapos hposb]

/-! ### Selection (R131) -/

/-- `PAL` is read as an association list is. -/
theorem palLookup_eq_lookup (pid : Byte) (m : List (Byte × Palette)) :
    palLookup pid m = m.lookup pid := by
  induction m with
  | nil => rfl
  | cons e m ih =>
    obtain ⟨key, p⟩ := e
    by_cases h : key = pid
    · subst h; simp [palLookup]
    · simp [palLookup, List.lookup, h, ih, beq_false_of_ne (Ne.symm h)]

section Selection

variable {c : Config} {pid : Byte}

theorem stopsOf_unknown (h : ∀ e ∈ c.pal, e.1 ≠ pid) : stopsOf c pid = c.palDefault := by
  have hnone : palLookup pid c.pal = none := by
    rw [palLookup_eq_lookup, List.lookup_eq_none_iff]
    exact fun e he => bne_iff_ne.2 (h e he).symm
  rw [stopsOf, hnone, Option.getD_none]

theorem stopsOf_first_entry {before after : List (Byte × Palette)} {p : Palette}
    (hpal : c.pal = before ++ (pid, p) :: after) (hbefore : ∀ e ∈ before, e.1 ≠ pid) :
    stopsOf c pid = p := by
  have hsome : palLookup pid c.pal = some p := by
    rw [palLookup_eq_lookup, List.lookup_eq_some_iff]
    exact ⟨before, after, hpal, fun e he => bne_iff_ne.2 (hbefore e he).symm⟩
  rw [stopsOf, hsome, Option.getD_some]

end Selection

/-! ### Brightness (R133) -/

/-- A brightness up to 255 does not raise a channel, so nothing is cut. -/
theorem chan_scaleBy (c : Color) {bri : Nat} (hbri : bri ≤ 255) (k : Channel) :
    chan k (scaleBy c bri) = chan k c * bri / 255 := by
  refine chan_lanes_of_lt k _ (Nat.lt_of_le_of_lt ?_ (chan_lt k c))
  exact Nat.div_le_of_le_mul (Nat.mul_comm 255 _ ▸ Nat.mul_le_mul_left _ hbri)

@[simp] theorem scaleBy_full (c : Color) : scaleBy c 255 = c :=
  color_ext fun k => by rw [chan_scaleBy c (Nat.le_refl _), Nat.mul_div_cancel _ (by decide)]

@[simp] theorem scaleBy_zero (c : Color) : scaleBy c 0 = 0 :=
  (color_eq_zero_iff _).2 fun k => by
    rw [chan_scaleBy c (Nat.zero_le _), Nat.mul_zero, Nat.zero_div]

/-- Settles O40: the lookup's two cases, and the scale on each channel. -/
theorem paletteFallsBackAndScales : Obligations.PaletteFallsBackAndScales := by
  unfold Obligations.PaletteFallsBackAndScales
  intro c pid pos bri _ hbri
  exact ⟨stopsOf_unknown, fun _ _ _ => stopsOf_first_entry, chan_scaleBy _ hbri, scaleBy_full _,
    scaleBy_zero _⟩

end Sys2Proof.Machine
end

section
/-! The segment unit: FILL, FADEOUT, BLUR and RESET (spec/44_segment.md R144 to R148, R154). -/

namespace Sys2Proof.Machine

open Sys2Proof.Claims

/-! ### FILL and FADEOUT (R144 to R146) -/

theorem exec_fill (s : State) : exec .fill s = .next (fill s.a s) := rfl

theorem exec_fadeout (amount : Byte) (s : State) :
    exec (.fadeout amount) s = .next (fadeOut amount.toNat s) := rfl

/-- A painted segment has the colours it was painted with. -/
theorem paints_paint (f : Nat → Color) (s : State) : paints s (paint f s) f := pixRead_paint f s

theorem fadeOut_samePixApart (amount : Nat) (s : State) : SamePixApart s (fadeOut amount s) :=
  forUpTo_segSet_samePixApart s.len (fun i => (i : Int))
    (fun i u => fadeToBlack (segGet i u) amount false) s

/-- The index ranges to `START + L` in the loop and to `END` in the segment: where `END < START` both
are empty. -/
theorem inSegment_iff_lt_len (s : State) (k : Nat) :
    inSegment s k ↔
      s.segStart.toNat ≤ k ∧ k < s.segStart.toNat + s.len ∧ k < s.cfg.numLeds := by
  unfold inSegment State.len
  omega

/-- No round reads a pixel that an earlier one has written, so each fades by its old value. -/
theorem pixRead_fadeOut (amount : Nat) (s : State) (k : Nat) :
    pixRead k (fadeOut amount s) =
      if inSegment s k then fadeToBlack (pixRead k s) amount false else pixRead k s := by
  simp only [inSegment_iff_lt_len]
  exact pixRead_forUpTo_segSet s.len (fun _ c => fadeToBlack c amount false) s (le_refl _) k

/-- Settles O43: FILL is a `paint` with one colour, and FADEOUT a loop whose rounds each read the one
pixel they write. -/
theorem fillAndFadeoutCoverTheSegment : Obligations.FillAndFadeoutCoverTheSegment := by
  unfold Obligations.FillAndFadeoutCoverTheSegment
  intro s amount
  exact ⟨fill s.a s, fadeOut amount.toNat s,
    exec_fill s, paint_samePixApart _ s, paints_paint _ s,
    exec_fadeout amount s, fadeOut_samePixApart _ s, pixRead_fadeOut _ s⟩

/-! ### BLUR (R147, R148) -/

theorem exec_blur (amount : Byte) (s : State) :
    exec (.blur amount) s = .next (blur amount.toNat s) := rfl

section Blur

variable {amount : Nat} {s : State}

theorem blur_noop (h : amount = 0 ∨ s.len < 3) : blur amount s = s := if_pos h

/-- The colours are computed from the state before the loop, the snapshot `old` of R147. -/
theorem blur_eq_paint (hamount : amount ≠ 0) (hlen : 3 ≤ s.len) :
    blur amount s = paint (blurred (fun i => segGet i s) s.len (amount / 2)) s :=
  if_neg (not_or.2 ⟨hamount, Nat.not_lt.2 hlen⟩)

theorem blur_samePixApart (amount : Nat) (s : State) : SamePixApart s (blur amount s) := by
  by_cases h : amount = 0 ∨ s.len < 3
  · rw [blur_noop h]
    exact SamePixApart.refl s
  · obtain ⟨hamount, hlen⟩ := not_or.1 h
    rw [blur_eq_paint hamount (Nat.not_lt.1 hlen)]
    exact paint_samePixApart _ s

theorem paints_blur (hamount : amount ≠ 0) (hlen : 3 ≤ s.len) :
    paints s (blur amount s) (blurred (fun i => segGet i s) s.len (amount / 2)) := by
  rw [blur_eq_paint hamount hlen]
  exact paints_paint _ s

end Blur

/-- Settles O44: BLUR is a no-op or a `paint`, whose colours `blurred` writes as the rule does. -/
theorem blurReadsTheOldNeighbours : Obligations.BlurReadsTheOldNeighbours := by
  unfold Obligations.BlurReadsTheOldNeighbours
  intro s amount
  have hzero : amount.toNat = 0 ↔ amount = 0 := BitVec.toNat_inj (y := 0)
  exact ⟨blur amount.toNat s, exec_blur amount s, blur_samePixApart _ s,
    fun hnoop => blur_noop (hnoop.imp_left hzero.2),
    fun hamount hlen => paints_blur (hamount ∘ hzero.1) hlen⟩

/-! ### RESET (R154) -/

/-- The word of RESET (R73, R79). -/
theorem encode_reset : encode .reset = 0xA0000000 := rfl

/-- The decoder reads the fields the word was built from, and format N finds no bit set in them. -/
theorem decode_encode_reset : decode (encode .reset) = .ok .reset :=
  (decode_assemble (fieldsN 0x28)).trans rfl

/-- Settles O17: the word's round trip, and `exec_reset` for what it does. -/
theorem resetCommandClearsTheScratchState : Obligations.ResetCommandClearsTheScratchState := by
  unfold Obligations.ResetCommandClearsTheScratchState
  exact ⟨encode_reset ▸ decode_encode_reset, encode_reset, exec_reset⟩

end Sys2Proof.Machine
end

section
/-! The EFFECT command, what a frame shows, and Static with its fallbacks (spec/45_effects_a.md R160 to
R164). -/

namespace Sys2Proof.Machine

open Sys2Proof.Claims

/-! ### The EFFECT command (R160) -/

/-- The frame that EFFECT with id `n` finishes: the registry's row, or Static's where the segment is
empty (R160). -/
def frameFor (n : Nat) (s : State) : Frame :=
  runEffect (if s.len = 0 then 0 else n) (now s).toNat s

/-- Every EFFECT command runs the row of its id and then writes R and CALL (R80, R160). -/
theorem exec_of_effectNumber {i : Instr} {n : Nat} (h : effectNumber i = some n) (s : State) :
    exec i s = .next (finishFrame (frameFor n s)) := by
  cases i <;> cases h <;> rfl

theorem frameFor_of_len_ne_zero {s : State} (h : s.len ≠ 0) (n : Nat) :
    frameFor n s = runEffect n (now s).toNat s := by
  rw [frameFor, if_neg h]

theorem frameFor_of_len_eq_zero {s : State} (h : s.len = 0) (n : Nat) :
    frameFor n s = fxStatic (now s).toNat s := by
  rw [frameFor, if_pos h, runEffect]

/-! ### What a frame shows -/

/-- The frame `f` asks for `delay`, and its state is `u` but for PIX, where the segment shows `col`. -/
structure Frame.Shows (f : Frame) (delay : Nat) (u : State) (col : Nat → Color) : Prop where
  delay_eq : f.delay = delay
  samePixApart : SamePixApart u f.state
  colours : paints u f.state col

section Shows

variable {f : Frame} {delay : Nat} {u : State} {col : Nat → Color}

/-- Finishing a frame writes its delay to R and counts CALL up (R160). -/
theorem Frame.Shows.frameOf (h : f.Shows delay u col) : frameOf u (finishFrame f) delay := by
  obtain ⟨hdelay, hsame, -⟩ := h
  have hcall : f.state.call = u.call := by rw [hsame]; rfl
  calc finishFrame f
      = (f.state.setR (natWord delay)).setCall (u.call + 1) := by rw [finishFrame, hdelay, hcall]
    _ = ((u.setPix f.state.pix).setR (natWord delay)).setCall (u.call + 1) := by rw [← hsame]

/-- What an EFFECT command does, from what the frame it finishes shows. -/
theorem exec_of_frameFor_shows {i : Instr} {n : Nat} {s : State} (hid : effectNumber i = some n)
    (h : (frameFor n s).Shows delay u col) :
    ∃ t, exec i s = .next t ∧ frameOf u t delay ∧ paints u t col :=
  ⟨finishFrame (frameFor n s), exec_of_effectNumber hid s, h.frameOf, h.colours⟩

/-- What it does where the segment is not empty, from what its row's frame shows. -/
theorem exec_of_row_shows {i : Instr} {n : Nat} {s : State} (hid : effectNumber i = some n)
    (hlen : s.len ≠ 0) (h : (runEffect n (now s).toNat s).Shows delay u col) :
    ∃ t, exec i s = .next t ∧ frameOf u t delay ∧ paints u t col :=
  exec_of_frameFor_shows hid (frameFor_of_len_ne_zero hlen n ▸ h)

end Shows

/-- A frame that paints the segment shows what it was painted with, at the base frame delay. -/
theorem shows_frame_paint (col : Nat → Color) (s : State) :
    (frame (paint col s)).Shows 24 s col :=
  ⟨frameTime_eq, paint_samePixApart col s, paints_paint col s⟩

theorem shows_frame_fill (c : Color) (s : State) : (frame (fill c s)).Shows 24 s (fun _ => c) :=
  shows_frame_paint _ s

/-- An access reaches an element of the segment exactly at the element's relative index (R60). -/
theorem segIndex_eq_some_iff_inSegment (i : Int) (s : State) (k : Nat) :
    segIndex i s = some k ↔ inSegment s k ∧ i = ((k - s.segStart.toNat : Nat) : Int) := by
  rw [segIndex_eq_some, inSegment, State.len]
  omega

/-- Lighting the pixels `ix 0` to `ix (n - 1)` over a painted segment, each in the colour of its own
index: indices outside the segment are dropped, and the order does not matter. -/
theorem shows_lit {s u : State} {bg : Nat → Color} (hu : (frame u).Shows 24 s bg) (n : Nat)
    (ix : Nat → Int) (lit : Int → Color) (P : Nat → Prop) [DecidablePred P]
    (hP : ∀ i < s.len, P i ↔ ∃ j < n, ix j = (i : Int)) :
    (frame (forUpTo n (fun j w => segSet (ix j) (lit (ix j)) w) u)).Shows 24 s
      (fun i => if P i then lit i else bg i) := by
  have hsame : u = s.setPix u.pix := hu.samePixApart
  refine ⟨frameTime_eq,
    hu.samePixApart.trans (forUpTo_segSet_samePixApart n ix (fun j _ => lit (ix j)) u), fun k => ?_⟩
  have hix (j : Int) : segIndex j u = segIndex j s :=
    (congrArg (segIndex j) hsame).trans (segIndex_setPix j s u.pix)
  have hstart : u.segStart = s.segStart :=
    (congrArg State.segStart hsame).trans (State.setPix_segStart s u.pix)
  have hreached : (∃ j < n, segIndex (ix j) u = some k) ↔
      inSegment s k ∧ ∃ j < n, ix j = ((k - s.segStart.toNat : Nat) : Int) := by
    simp only [hix, segIndex_eq_some_iff_inSegment, and_left_comm (b := inSegment s k),
      exists_and_left]
  have hold : pixRead k u = if inSegment s k then bg (k - s.segStart.toNat) else pixRead k s :=
    hu.colours k
  refine (pixRead_forUpTo_segSet_at n ix lit u k).trans ?_
  simp only [hreached, hstart, hold]
  by_cases hk : inSegment s k
  · obtain ⟨hle, hend, -⟩ := id hk
    have hcast : (k : Int) - (s.segStart.toNat : Int) = ((k - s.segStart.toNat : Nat) : Int) :=
      (Nat.cast_sub hle).symm
    have hlt : k - s.segStart.toNat < s.len := Nat.sub_lt_sub_right hle hend
    simp only [if_pos hk, hcast, hP _ hlt, and_iff_right hk]
  · simp only [if_neg hk, if_neg (mt And.left hk)]

/-! ### Static and the fallbacks (R164) -/

theorem shows_fxStatic (t : Nat) (s : State) :
    (fxStatic t s).Shows (if s.call = 0 then 350 else 24) s (fun _ => s.color0) :=
  ⟨rfl, paint_samePixApart _ s, paints_paint _ s⟩

theorem runEffect_unknown {n : Nat} (h : 15 < n) (t : Nat) (s : State) :
    runEffect n t s = fxStatic t s := by
  obtain ⟨k, rfl⟩ := Nat.exists_eq_add_of_le' h
  rfl

theorem scanCommon_of_len_le_one {s : State} (h : s.len ≤ 1) (dual : Bool) (t : Nat) :
    scanCommon dual t s = fxStatic t s := if_pos h

theorem fxWipe_of_len_le_one {s : State} (h : s.len ≤ 1) (t : Nat) :
    fxWipe t s = fxStatic t s := if_pos h

theorem fxDynamic_of_dataCap_lt {s : State} (h : s.cfg.dataCap < s.len) (t : Nat) :
    fxDynamic t s = fxStatic t s := if_pos h

/-- Where an EFFECT command falls back to Static: an unknown id, an empty segment, one too short for
the effect or one too long for its buffer (R164). -/
theorem frameFor_fallback {n : Nat} {s : State}
    (h : n = 0 ∨ 15 < n ∨ s.len = 0 ∨ (s.len ≤ 1 ∧ (n = 5 ∨ n = 6 ∨ n = 11)) ∨
      (s.cfg.dataCap < s.len ∧ n = 13)) :
    frameFor n s = fxStatic (now s).toNat s := by
  by_cases hempty : s.len = 0
  · exact frameFor_of_len_eq_zero hempty n
  rw [frameFor_of_len_ne_zero hempty]
  rcases h with rfl | hunknown | hzero | ⟨hshort, rfl | rfl | rfl⟩ | ⟨hlong, rfl⟩
  · rfl
  · exact runEffect_unknown hunknown _ s
  · exact absurd hzero hempty
  · exact scanCommon_of_len_le_one hshort false _
  · exact scanCommon_of_len_le_one hshort true _
  · exact fxWipe_of_len_le_one hshort _
  · exact fxDynamic_of_dataCap_lt hlong _

/-- A fallback to Static is Static's own command. -/
theorem exec_eq_fxStatic {i : Instr} {n : Nat} {s : State} (hid : effectNumber i = some n)
    (hfallback : frameFor n s = fxStatic (now s).toNat s) : exec i s = exec .fxStatic s := by
  rw [exec_of_effectNumber hid, hfallback, exec_of_effectNumber (i := .fxStatic) rfl,
    frameFor_fallback (Or.inl rfl)]

/-- Settles O47: each fallback finishes Static's own frame. -/
theorem staticAndItsFallbacks : Obligations.StaticAndItsFallbacks := by
  unfold Obligations.StaticAndItsFallbacks
  intro i n s hid hfallback
  exact exec_of_frameFor_shows hid (frameFor_fallback hfallback ▸ shows_fxStatic _ s)

end Sys2Proof.Machine
end

section
/-! The effects Blink to Rainbow-Cycle (spec/45_effects_a.md R165 to R172). -/

namespace Sys2Proof.Machine

open Sys2Proof.Claims

/-! ### Blink and Strobe (R165, R166) -/

/-- STEP is written first, and neither the palette colour nor `COLOR1` depends on it. -/
theorem shows_blinkFrame (cyc onT t : Nat) (s : State) :
    (blinkFrame cyc onT t s).Shows 24 { s with step := BitVec.ofNat 32 (t / cyc) }
      (fun i => if t / cyc ≠ s.step.toNat ∨ t % cyc ≤ onT then segPal i true 255 s
        else s.color1) := by
  have hon : (boundary (t / cyc) s || decide (t % cyc ≤ onT)) = true ↔
      t / cyc ≠ s.step.toNat ∨ t % cyc ≤ onT := by
    simp [boundary]
  by_cases h : t / cyc ≠ s.step.toNat ∨ t % cyc ≤ onT
  · simp only [blinkFrame, if_pos (hon.2 h), if_pos h]
    exact shows_frame_paint (fun i => segPal i true 255 s) (s.setStep (natWord (t / cyc)))
  · simp only [blinkFrame, if_neg (mt hon.1 h), if_neg h]
    exact shows_frame_fill s.color1 (s.setStep (natWord (t / cyc)))

theorem blinkCycle_eq (speed : Nat) : blinkCycle speed = (255 - speed) * 20 + 48 :=
  Nat.add_comm _ _

theorem shows_fxBlink (t : Nat) (s : State) :
    let base := (255 - s.speed.toNat) * 20
    let cyc := base + 48
    (fxBlink t s).Shows 24 { s with step := BitVec.ofNat 32 (t / cyc) }
      (fun i => if t / cyc ≠ s.step.toNat ∨ t % cyc ≤ 24 + ((base * s.intensity.toNat) >>> 8) then
        segPal i true 255 s else s.color1) := by
  intro base cyc
  have hwindow : cycleLength 0 blinkScale s.speed.toNat = base := Nat.zero_add _
  rw [fxBlink, blinkCycle_eq, hwindow, Nat.shiftRight_eq_div_pow]
  exact shows_blinkFrame cyc _ t s

theorem shows_fxStrobe (t : Nat) (s : State) :
    let cyc := (255 - s.speed.toNat) * 20 + 48
    (fxStrobe t s).Shows 24 { s with step := BitVec.ofNat 32 (t / cyc) }
      (fun i => if t / cyc ≠ s.step.toNat ∨ t % cyc ≤ 24 then segPal i true 255 s
        else s.color1) := by
  intro cyc
  rw [fxStrobe, blinkCycle_eq]
  exact shows_blinkFrame cyc 24 t s

/-- Settles O48: both run `blinkFrame`, with the same cycle and their own windows. -/
theorem blinkAndStrobeAreOnInTheirWindow : Obligations.BlinkAndStrobeAreOnInTheirWindow := by
  unfold Obligations.BlinkAndStrobeAreOnInTheirWindow
  intro s hlen t base cyc it gradient
  obtain ⟨u, hexecU, hframeU, hpaintsU⟩ :=
    exec_of_row_shows (i := .fxBlink) rfl hlen (shows_fxBlink t s)
  obtain ⟨v, hexecV, hframeV, hpaintsV⟩ :=
    exec_of_row_shows (i := .fxStrobe) rfl hlen (shows_fxStrobe t s)
  exact ⟨u, v, hexecU, hframeU, hpaintsU, hexecV, hframeV, hpaintsV⟩

/-! ### Breathe and Fade (R167, R168) -/

theorem and_ffff_eq_mod (x : Nat) : x &&& 0xFFFF = x % 2 ^ 16 :=
  Nat.and_two_pow_sub_one_eq_mod x 16

/-- The counter of Breathe and Fade (R167, R168). -/
theorem breatheCounter_eq (t speed : Nat) :
    t * breatheRate speed % 2 ^ counterBits = (t * ((speed >>> 3) + 10)) &&& 0xFFFF := by
  simp [and_ffff_eq_mod, breatheRate, Nat.shiftRight_eq_div_pow]

/-- What the sine adds to Breathe's floor at the compressed counter `c` (`var` of R167). -/
def breatheVar (c : Nat) : Nat :=
  if c < 16384 then (sin16 (if 8192 < c then 8192 - (c - 8192) else c) / 103).toNat else 0

theorem breatheLum_eq (t speed : Nat) :
    breatheLum t speed =
      30 + breatheVar
        ((((t * ((speed >>> 3) + 10)) &&& 0xFFFF) >>> 2) +
          (((t * ((speed >>> 3) + 10)) &&& 0xFFFF) >>> 4)) := by
  rw [breatheLum, breatheCounter_eq, Nat.shiftRight_eq_div_pow _ 2, Nat.shiftRight_eq_div_pow _ 4]
  exact (apply_ite (30 + ·) _ _ 0).symm

/-- In the first quadrant the sine is not negative, so the natural quotient is the floor quotient. -/
theorem toNat_sin16_div (o : Nat) (ho : o < 16384) :
    ((sin16 o / 103).toNat : Int) = Int.fdiv (sin16 o) 103 := by
  rw [sin16_first_quadrant ho, Int.fdiv_eq_ediv_of_nonneg _ (by decide)]
  exact Int.toNat_of_nonneg (by omega)

section BreatheVar

variable {c : Nat}

theorem breatheVar_rest (h : 16384 ≤ c) : breatheVar c = 0 := if_neg (Nat.not_lt.2 h)

theorem breatheVar_rise (h : c ≤ 8192) : (breatheVar c : Int) = Int.fdiv (sin16 c) 103 := by
  rw [breatheVar, if_pos (by omega), if_neg (by omega)]
  exact toNat_sin16_div c (by omega)

theorem breatheVar_fall (h : 8192 < c) (hc : c < 16384) :
    (breatheVar c : Int) = Int.fdiv (sin16 (8192 - (c - 8192))) 103 := by
  rw [breatheVar, if_pos hc, if_pos h]
  exact toNat_sin16_div _ (by omega)

end BreatheVar

theorem fadeLum_eq (t speed : Nat) :
    fadeLum t speed = triangleWave16 ((t * ((speed >>> 3) + 10)) &&& 0xFFFF) >>> 8 := by
  rw [fadeLum, breatheCounter_eq, fadeShift_eq, Nat.shiftRight_eq_div_pow (triangleWave16 _)]

theorem shows_crossfade (lum : Nat) (s : State) :
    (frame (paintCrossfade lum s)).Shows 24 s
      (fun i => blend s.color1 (segPal i true 255 s) lum) :=
  shows_frame_paint _ s

/-- Settles O49: both crossfade the segment, each with its own luminance. -/
theorem breatheAndFadeCrossfade : Obligations.BreatheAndFadeCrossfade := by
  unfold Obligations.BreatheAndFadeCrossfade
  intro s hlen c0 c
  have hbreathe : (fxBreathe (now s).toNat s).Shows 24 s
      (fun i => blend s.color1 (segPal i true 255 s) (30 + breatheVar c)) :=
    breatheLum_eq (now s).toNat s.speed.toNat ▸ shows_crossfade _ s
  have hfade : (fxFade (now s).toNat s).Shows 24 s
      (fun i => blend s.color1 (segPal i true 255 s) (triangleWave16 c0 >>> 8)) :=
    fadeLum_eq (now s).toNat s.speed.toNat ▸ shows_crossfade _ s
  obtain ⟨u, hexecU, hframeU, hpaintsU⟩ :=
    exec_of_row_shows (i := .fxBreathe) rfl hlen hbreathe
  obtain ⟨v, hexecV, hframeV, hpaintsV⟩ :=
    exec_of_row_shows (i := .fxFade) rfl hlen hfade
  exact ⟨breatheVar c, u, v, breatheVar_rest, breatheVar_rise, breatheVar_fall,
    hexecU, hframeU, hpaintsU, hexecV, hframeV, hpaintsV⟩

/-! ### Scan and Dual-Scan (R169, R170) -/

/-- The rule's window is the model's. -/
theorem scanWindow_eq (t speed intensity len : Nat) :
    scanWindow t speed intensity len =
      (scanSize intensity len,
        scanOffset (progress (scanCycle speed) t) (scanSize intensity len) len) := by
  simp [scanWindow, scanSize, scanOffset, progress, scanCycle, cycleLength_eq,
    Nat.shiftRight_eq_div_pow]

/-- The direct window's loop runs over the indices of the window. -/
theorem inWindow_iff_exists (off size i : Nat) :
    inWindow off size i ↔ ∃ j < size, ((off + j : Nat) : Int) = (i : Int) :=
  ⟨fun ⟨hlow, hhigh⟩ => ⟨i - off, by omega, by omega⟩, fun ⟨j, hj, hi⟩ => ⟨by omega, by omega⟩⟩

/-- The mirrored window's loop runs over the indices whose mirror image is in the window. -/
theorem inWindow_mirror_iff_exists {len i : Nat} (off size : Nat) (hi : i < len) :
    inWindow off size (len - 1 - i) ↔
      ∃ j < size, (len : Int) - 1 - ((off + j : Nat) : Int) = (i : Int) :=
  ⟨fun ⟨hlow, hhigh⟩ => ⟨len - 1 - i - off, by omega, by omega⟩,
    fun ⟨j, hj, hj'⟩ => ⟨by omega, by omega⟩⟩

section Scan

variable {s u : State} {bg : Nat → Color}

/-- Lights the window `[off, off + size)` of the segment of `s` in the colours of its palette. -/
def lightWindow (off size : Nat) (s u : State) : State :=
  forUpTo size (fun n w => segSet ((off + n : Nat) : Int) (segPalI (off + n) s) w) u

/-- Lights the mirror image of that window. -/
def lightMirror (off size : Nat) (s u : State) : State :=
  forUpTo size (fun n w =>
    segSet ((s.len : Int) - 1 - ((off + n : Nat) : Int))
      (segPal ((s.len : Int) - 1 - ((off + n : Nat) : Int)) true 255 s) w) u

theorem shows_lightWindow (hu : (frame u).Shows 24 s bg) (off size : Nat) :
    (frame (lightWindow off size s u)).Shows 24 s
      (fun i => if inWindow off size i then segPal i true 255 s else bg i) :=
  shows_lit hu size (fun n => ((off + n : Nat) : Int)) (fun i => segPal i true 255 s) _
    fun i _ => inWindow_iff_exists off size i

theorem shows_lightMirror (hu : (frame u).Shows 24 s bg) (off size : Nat) :
    (frame (lightMirror off size s u)).Shows 24 s
      (fun i => if inWindow off size (s.len - 1 - i) then segPal i true 255 s else bg i) :=
  shows_lit hu size (fun n => (s.len : Int) - 1 - ((off + n : Nat) : Int))
    (fun i => segPal i true 255 s) _ fun _ hi => inWindow_mirror_iff_exists off size hi

variable (hlen : 2 ≤ s.len) (t : Nat)
include hlen

theorem fxScan_eq :
    let w := scanWindow t s.speed.toNat s.intensity.toNat s.len
    fxScan t s = frame (lightWindow w.2 w.1 s (fill s.color1 s)) := by
  rw [scanWindow_eq]
  exact if_neg (Nat.not_le.2 hlen)

theorem fxDualScan_eq :
    let w := scanWindow t s.speed.toNat s.intensity.toNat s.len
    fxDualScan t s = frame (lightWindow w.2 w.1 s (lightMirror w.2 w.1 s (fill s.color1 s))) := by
  rw [scanWindow_eq]
  exact if_neg (Nat.not_le.2 hlen)

theorem shows_fxScan :
    let w := scanWindow t s.speed.toNat s.intensity.toNat s.len
    (fxScan t s).Shows 24 s
      (fun i => if inWindow w.2 w.1 i then segPal i true 255 s else s.color1) := by
  intro w
  rw [fxScan_eq hlen t]
  exact shows_lightWindow (shows_frame_fill s.color1 s) w.2 w.1

theorem shows_fxDualScan :
    let w := scanWindow t s.speed.toNat s.intensity.toNat s.len
    (fxDualScan t s).Shows 24 s
      (fun i => if inWindow w.2 w.1 i ∨ inWindow w.2 w.1 (s.len - 1 - i) then segPal i true 255 s
        else s.color1) := by
  intro w
  rw [fxDualScan_eq hlen t]
  simp only [ite_or]
  exact shows_lightWindow (shows_lightMirror (shows_frame_fill s.color1 s) w.2 w.1) w.2 w.1

end Scan

/-- Settles O50: Dual-Scan lights the mirrored window under the direct one, each pixel in its own
palette colour. -/
theorem scanAndDualScanLightTheirWindows : Obligations.ScanAndDualScanLightTheirWindows := by
  unfold Obligations.ScanAndDualScanLightTheirWindows
  refine fun s => ⟨fun hshort => ⟨?scan, ?dualScan⟩, fun hlen => ?windows⟩
  case scan => exact exec_eq_fxStatic rfl (frameFor_fallback (n := 5) (by simp [hshort]))
  case dualScan => exact exec_eq_fxStatic rfl (frameFor_fallback (n := 6) (by simp [hshort]))
  case windows =>
    have hne : s.len ≠ 0 := by omega
    obtain ⟨u, hexecU, hframeU, hpaintsU⟩ :=
      exec_of_row_shows (i := .fxScan) rfl hne (shows_fxScan hlen (now s).toNat)
    obtain ⟨v, hexecV, hframeV, hpaintsV⟩ :=
      exec_of_row_shows (i := .fxDualScan) rfl hne (shows_fxDualScan hlen (now s).toNat)
    exact ⟨u, v, hexecU, hframeU, hpaintsU, hexecV, hframeV, hpaintsV⟩

/-! ### Rainbow and Rainbow-Cycle (R171, R172) -/

theorem rainbowCounter_eq (t speed : Nat) :
    rainbowCounter t speed = ((t * ((speed >>> 2) + 2)) &&& 0xFFFF) >>> 8 := by
  simp [rainbowCounter, and_ffff_eq_mod, rainbowRate, Nat.shiftRight_eq_div_pow]

theorem white_eq : white = 0x00FFFFFF := by decide

theorem shows_fxRainbow (t : Nat) (s : State) :
    (fxRainbow t s).Shows 24 s (fun _ =>
      if s.intensity.toNat < 128 then
        blend (hueWheel (rainbowCounter t s.speed.toNat)) 0x00FFFFFF (128 - s.intensity.toNat)
      else hueWheel (rainbowCounter t s.speed.toNat)) := by
  simp only [fxRainbow, desaturateBelow_eq, white_eq]
  split
  · exact shows_frame_fill _ s
  · exact shows_frame_fill _ s

theorem rainbowCycleIndex_eq (c intensity len i : Nat) :
    rainbowCycleIndex c intensity len i = (i * (16 <<< (intensity / 29)) / len + c) &&& 0xFF := by
  rw [Nat.shiftLeft_eq]
  exact (Nat.and_two_pow_sub_one_eq_mod _ 8).symm

theorem shows_fxRainbowCycle (t : Nat) (s : State) :
    (fxRainbowCycle t s).Shows 24 s (fun i =>
      hueWheel ((i * (16 <<< (s.intensity.toNat / 29)) / s.len +
        rainbowCounter t s.speed.toNat) &&& 0xFF)) := by
  simp only [fxRainbowCycle, rainbowCycleIndex_eq]
  exact shows_frame_paint _ s

/-- Settles O51: Rainbow fills with one wheel colour, Rainbow-Cycle paints each pixel's own. -/
theorem rainbowsTurnTheWheel : Obligations.RainbowsTurnTheWheel := by
  unfold Obligations.RainbowsTurnTheWheel
  intro s hlen c
  obtain ⟨u, hexecU, hframeU, hpaintsU⟩ :=
    exec_of_row_shows (i := .fxRainbow) rfl hlen (shows_fxRainbow (now s).toNat s)
  obtain ⟨v, hexecV, hframeV, hpaintsV⟩ :=
    exec_of_row_shows (i := .fxRainbowCycle) rfl hlen (shows_fxRainbowCycle (now s).toNat s)
  rw [rainbowCounter_eq] at hpaintsU hpaintsV
  exact ⟨u, v, hexecU, hframeU, hpaintsU, hexecV, hframeV, hpaintsV⟩

end Sys2Proof.Machine
end

section
/-! The effects that take no draw: Theater Chase, Running Lights, Color Wipe and Twinkle
(spec/46_effects_b.md R180 to R182, R185). -/

namespace Sys2Proof.Machine

open Sys2Proof.Claims

/-- A cycle boundary, in the words of the rule (R162). -/
theorem boundary_iff (it : Nat) (s : State) : boundary it s = true ↔ it ≠ s.step.toNat := by
  simp [boundary]

/-! ### Theater Chase (R180) -/

/-- Theater Chase's offset after its update: it advances modulo the spacing `n` at a boundary and
stays otherwise. -/
def theaterOffset (n it : Nat) (s : State) : Nat :=
  if it ≠ s.step.toNat then (s.aux0.toNat + 1) % n else s.aux0.toNat

section TheaterOffset

variable {n it : Nat} {s : State}

/-- The offset fits in AUX0: it is below the spacing, or already there. -/
theorem theaterOffset_lt (hn : 0 < n) (hwidth : n ≤ 2 ^ 32) : theaterOffset n it s < 2 ^ 32 := by
  unfold theaterOffset
  split
  · exact Nat.lt_of_lt_of_le (Nat.mod_lt _ hn) hwidth
  · exact s.aux0.isLt

/-- The update writes STEP and AUX0 at a boundary; off it, what they hold is what they would get. -/
theorem theaterUpdate_eq :
    (if boundary it s then
      (s.setAux0 (natWord ((s.aux0.toNat + 1) % n))).setStep (natWord it)
    else s) =
      { s with step := BitVec.ofNat 32 it, aux0 := BitVec.ofNat 32 (theaterOffset n it s) } := by
  by_cases hit : it ≠ s.step.toNat
  · rw [if_pos ((boundary_iff it s).2 hit), theaterOffset, if_pos hit]
    rfl
  · rw [if_neg (mt (boundary_iff it s).1 hit), theaterOffset, if_neg hit, not_not.1 hit]
    simp only [BitVec.ofNat_toNat, BitVec.setWidth_eq]

end TheaterOffset

theorem shows_fxTheater (t : Nat) (s : State) :
    let n := 3 + s.intensity.toNat / 16
    let it := t / (50 + (255 - s.speed.toNat) * 2)
    let aux := theaterOffset n it s
    (fxTheater t s).Shows 24
      { s with step := BitVec.ofNat 32 it, aux0 := BitVec.ofNat 32 aux }
      (fun i => if i % n = aux then segPal i true 255 s else s.color1) := by
  intro n it aux
  have hwidth : theaterWidth s.intensity.toNat = n := rfl
  have hcycle : t / theaterCycle s.speed.toNat = it := rfl
  have hintensity := s.intensity.isLt
  have haux : (BitVec.ofNat 32 (theaterOffset n it s)).toNat = theaterOffset n it s :=
    (BitVec.toNat_ofNat _ 32).trans
      (Nat.mod_eq_of_lt (theaterOffset_lt (by omega) (by omega)))
  simp only [fxTheater, hwidth, hcycle, theaterUpdate_eq, haux]
  exact shows_frame_paint _ { s with step := BitVec.ofNat 32 it, aux0 := BitVec.ofNat 32 aux }

/-- Settles O52: the pixels are painted with the offset after its update. -/
theorem theaterChaseAdvancesOncePerBoundary : Obligations.TheaterChaseAdvancesOncePerBoundary := by
  unfold Obligations.TheaterChaseAdvancesOncePerBoundary
  exact fun s hlen => exec_of_row_shows (i := .fxTheater) rfl hlen (shows_fxTheater (now s).toNat s)

/-! ### Running Lights (R181) -/

/-- The mask is the floor remainder, also of a negative number (R8). -/
theorem mask8_eq_fmod (y : Int) : mask8 y = (y.fmod 256).toNat := by
  rw [mask8, Int.fmod_eq_emod_of_nonneg y (by decide)]

theorem runningCounter_eq (t speed : Nat) :
    runningCounter t speed = (t * speed % 2 ^ 32) >>> 9 :=
  (Nat.shiftRight_eq_div_pow _ 9).symm

theorem runningPhase_eq (i intensity c : Nat) :
    runningPhase i intensity c = (((i : Int) * (intensity >>> 2 : Nat) - c).fmod 256).toNat := by
  rw [runningPhase, mask8_eq_fmod, runningShift_eq, Nat.shiftRight_eq_div_pow]

theorem shows_fxRunning (t : Nat) (s : State) :
    let xs := s.intensity.toNat >>> 2
    let c := (t * s.speed.toNat % 2 ^ 32) >>> 9
    (fxRunning t s).Shows 24 s (fun i =>
      blend s.color1 (segPal i true 255 s) (sin8 (((i : Int) * xs - c).fmod 256).toNat)) := by
  simp only [fxRunning, runningCounter_eq, runningPhase_eq]
  exact shows_frame_paint _ s

/-- Settles O53: each pixel is painted by its own phase. -/
theorem runningLightsFollowTheSine : Obligations.RunningLightsFollowTheSine := by
  unfold Obligations.RunningLightsFollowTheSine
  exact fun s hlen => exec_of_row_shows (i := .fxRunning) rfl hlen (shows_fxRunning (now s).toNat s)

/-! ### Color Wipe (R182) -/

/-- The pixel that round `i` of Color Wipe's loop writes: the second phase runs from the far end. -/
def wipeIndex (back : Bool) (len i : Nat) : Nat := if back then len - 1 - i else i

section WipeIndex

variable {len i : Nat}

theorem wipeIndex_lt (back : Bool) (hi : i < len) : wipeIndex back len i < len := by
  cases back
  · exact hi
  · show len - 1 - i < len
    omega

/-- Running from the far end is its own inverse. -/
theorem wipeIndex_wipeIndex (back : Bool) (hi : i < len) :
    wipeIndex back len (wipeIndex back len i) = i := by
  cases back
  · rfl
  · show len - 1 - (len - 1 - i) = i
    omega

end WipeIndex

/-- A frame whose every pixel is given by the colour it had. -/
theorem shows_frame_of_pixRead {s u : State} (hsame : SamePixApart s u) (g : Color → Color)
    (h : ∀ k, pixRead k u = if inSegment s k then g (pixRead k s) else pixRead k s) :
    (frame u).Shows 24 s (fun i => g (pixRead (s.segStart.toNat + i) s)) := by
  refine ⟨frameTime_eq, hsame, fun k => (h k).trans ?_⟩
  by_cases hk : inSegment s k
  · obtain ⟨hle, -⟩ := id hk
    simp only [Nat.add_sub_cancel' hle]
  · simp only [if_neg hk]

theorem shows_frame_self (s : State) :
    (frame s).Shows 24 s (fun i => pixRead (s.segStart.toNat + i) s) :=
  shows_frame_of_pixRead (SamePixApart.refl s) id fun _ => (ite_self _).symm

/-- Painting the segment in another order: `ix` swaps the rounds, so each pixel has its round. -/
theorem shows_paint_swapped {s : State} {ix : Nat → Nat} (hlt : ∀ i < s.len, ix i < s.len)
    (hswap : ∀ i < s.len, ix (ix i) = i) (col : Nat → Color) :
    (frame (forUpTo s.len (fun i u => segSet (ix i : Int) (col (ix i)) u) s)).Shows 24 s col := by
  have h := shows_lit (shows_frame_self s) s.len (fun i => (ix i : Int)) (fun x => col x.toNat)
    (fun _ => True)
    fun i hi => ⟨fun _ => ⟨ix i, hlt i hi, congrArg Nat.cast (hswap i hi)⟩, fun _ => trivial⟩
  simp only [if_true] at h
  exact h

/-- Color Wipe's loop, which counts in the direction of the phase. -/
def wipe (back : Bool) (led rem : Nat) (s : State) : State :=
  forUpTo s.len (fun i u =>
    segSet (wipeIndex back s.len i : Int)
      (wipeColor back led rem i (segPalI (wipeIndex back s.len i) s) s.color1) u) s

/-- The round that writes a pixel is the one `wipeIndex` gives. -/
theorem shows_wipe (back : Bool) (led rem : Nat) (s : State) :
    (frame (wipe back led rem s)).Shows 24 s
      (fun i => wipeColor back led rem (wipeIndex back s.len i) (segPalI i s) s.color1) := by
  have h := shows_paint_swapped (s := s) (fun _ => wipeIndex_lt back)
    (fun _ => wipeIndex_wipeIndex back)
    (fun i => wipeColor back led rem (wipeIndex back s.len i) (segPalI i s) s.color1)
  rwa [forUpTo_congr _ _ _ _ fun i hi u => by rw [wipeIndex_wipeIndex back hi]] at h

/-- The boundary pixel at progress `prog` through a phase. -/
def wipeLed (prog len : Nat) : Nat := prog * len / 2 ^ wipeShift

/-- The boundary pixel's weight: the sub-pixel remainder, softened by INTENSITY and capped. -/
def wipeRem (prog len intensity : Nat) : Nat :=
  let rem0 := prog * len * wipeRemFactor % 2 ^ wipeRemBits / (intensity + wipeSoftness)
  if wipeRemCap < rem0 then wipeRemCap else rem0

theorem wipeLed_eq (prog len : Nat) : wipeLed prog len = (prog * len) >>> 15 :=
  (Nat.shiftRight_eq_div_pow _ 15).symm

theorem wipeRem_eq (prog len intensity : Nat) :
    wipeRem prog len intensity =
      min 255 (((prog * len * 2) &&& 0xFFFF) / (intensity + 1)) := by
  rw [and_ffff_eq_mod]
  exact (min_def_lt _ _).symm

theorem fxWipe_of_two_le_len {s : State} (hlen : 2 ≤ s.len) (t : Nat) :
    let cyc := 750 + (255 - s.speed.toNat) * 150
    let prog0 := t % cyc * 65535 / cyc
    let back := decide (32767 < prog0)
    let prog := if back then prog0 - 32767 else prog0
    fxWipe t s =
      frame (wipe back (wipeLed prog s.len) (wipeRem prog s.len s.intensity.toNat) s) :=
  if_neg (Nat.not_le.2 hlen)

theorem shows_fxWipe {s : State} (hlen : 2 ≤ s.len) (t : Nat) :
    let cyc := 750 + (255 - s.speed.toNat) * 150
    let prog0 := t % cyc * 65535 / cyc
    let prog := if 32767 < prog0 then prog0 - 32767 else prog0
    let led := (prog * s.len) >>> 15
    let rem := min 255 (((prog * s.len * 2) &&& 0xFFFF) / (s.intensity.toNat + 1))
    (fxWipe t s).Shows 24 s (fun i =>
      let pal := segPal i true 255 s
      if 32767 < prog0 then
        let j := s.len - 1 - i
        if j < led then s.color1 else if j = led then blend pal s.color1 rem else pal
      else if i < led then pal else if i = led then blend s.color1 pal rem else s.color1) := by
  intro cyc prog0 prog led rem
  have hwipe : fxWipe t s = frame (wipe (decide (32767 < prog0)) led rem s) := by
    rw [fxWipe_of_two_le_len hlen t]
    simp only [wipeLed_eq, wipeRem_eq, decide_eq_true_iff]
    rfl
  rw [hwipe]
  by_cases hback : 32767 < prog0
  · simp only [if_pos hback, decide_eq_true hback]
    exact shows_wipe true led rem s
  · simp only [if_neg hback, decide_eq_false hback]
    exact shows_wipe false led rem s

/-- Settles O54: one loop serves both phases, and counts in the direction of its phase. -/
theorem colorWipeSpreadsForwardThenBackward : Obligations.ColorWipeSpreadsForwardThenBackward := by
  unfold Obligations.ColorWipeSpreadsForwardThenBackward
  refine fun s => ⟨fun hshort => ?fallback, fun hlen => ?phases⟩
  case fallback => exact exec_eq_fxStatic rfl (frameFor_fallback (n := 11) (by simp [hshort]))
  case phases =>
    exact exec_of_row_shows (i := .fxWipe) rfl (by omega) (shows_fxWipe hlen (now s).toNat)

/-! ### Twinkle (R185) -/

theorem lcg_eq_generator : lcg = generator :=
  funext fun p => (and_ffff_eq_mod (p * 2053 + 13849)).symm

section TwinkleAdvance

variable {it : Nat} {s : State}

theorem twinkleAdvance_of_full (h : 1 + s.intensity.toNat * (s.len - 1) / 255 ≤ s.aux0.toNat) :
    twinkleAdvance it s =
      { s with
        step := BitVec.ofNat 32 it, aux0 := 1,
        aux1 := BitVec.ofNat 32 (generator (s.aux1.toNat &&& 0xFFFF)) } := by
  have hfull : twinkleCap s.intensity.toNat s.len ≤ s.aux0.toNat := h
  rw [twinkleAdvance, if_pos hfull, lcg_eq_generator, and_ffff_eq_mod]
  rfl

theorem twinkleAdvance_of_not_full
    (h : ¬1 + s.intensity.toNat * (s.len - 1) / 255 ≤ s.aux0.toNat) :
    twinkleAdvance it s = { s with step := BitVec.ofNat 32 it, aux0 := s.aux0 + 1 } := by
  have hfull : ¬twinkleCap s.intensity.toNat s.len ≤ s.aux0.toNat := h
  have hnext : natWord (s.aux0.toNat + 1) = s.aux0 + 1 := by
    rw [natWord, BitVec.ofNat_add, BitVec.ofNat_toNat, BitVec.setWidth_eq]
    rfl
  rw [twinkleAdvance, if_neg hfull, hnext]
  rfl

end TwinkleAdvance

/-- The state after Twinkle's once-per-cycle action, if one is due. -/
def twinkled (it : Nat) (s : State) : State := if boundary it s then twinkleAdvance it s else s

section Twinkled

variable {it : Nat} {s : State}

theorem twinkled_of_eq (h : it = s.step.toNat) : twinkled it s = s :=
  if_neg (mt (boundary_iff it s).1 (not_not.2 h))

theorem twinkled_of_ne (h : it ≠ s.step.toNat) : twinkled it s = twinkleAdvance it s :=
  if_pos ((boundary_iff it s).2 h)

end Twinkled

/-- The action writes STEP, AUX0 and AUX1 alone, with values that do not depend on PIX. -/
theorem exists_twinkled_setPix_eq (it : Nat) (s : State) :
    ∃ step aux0 aux1, ∀ m, twinkled it (s.setPix m) =
      (((s.setStep step).setAux0 aux0).setAux1 aux1).setPix m := by
  by_cases hit : it = s.step.toNat
  case pos => exact ⟨s.step, s.aux0, s.aux1, fun m => twinkled_of_eq (s := s.setPix m) hit⟩
  have hdue (m : List (Nat × Color)) : twinkled it (s.setPix m) = twinkleAdvance it (s.setPix m) :=
    twinkled_of_ne (s := s.setPix m) hit
  by_cases hfull : 1 + s.intensity.toNat * (s.len - 1) / 255 ≤ s.aux0.toNat
  · exact ⟨natWord it, 1, natWord (generator (s.aux1.toNat &&& 0xFFFF)),
      fun m => (hdue m).trans (twinkleAdvance_of_full (s := s.setPix m) hfull)⟩
  · exact ⟨natWord it, s.aux0 + 1, s.aux1,
      fun m => (hdue m).trans (twinkleAdvance_of_not_full (s := s.setPix m) hfull)⟩

theorem exists_twinkled_eq (it : Nat) (s : State) :
    ∃ step aux0 aux1, twinkled it s = ((s.setStep step).setAux0 aux0).setAux1 aux1 := by
  obtain ⟨step, aux0, aux1, h⟩ := exists_twinkled_setPix_eq it s
  exact ⟨step, aux0, aux1, h s.pix⟩

section TwinkledFrame

variable (it : Nat) (s : State)

@[simp] theorem len_twinkled : (twinkled it s).len = s.len := by
  obtain ⟨_, _, _, h⟩ := exists_twinkled_eq it s
  rw [h]
  rfl

@[simp] theorem segPal_twinkled (index : Int) (useIndex : Bool) (bri : Nat) :
    segPal index useIndex bri (twinkled it s) = segPal index useIndex bri s := by
  obtain ⟨_, _, _, h⟩ := exists_twinkled_eq it s
  rw [h]
  rfl

theorem paints_twinkled_iff (u : State) (col : Nat → Color) :
    paints (twinkled it s) u col ↔ paints s u col := by
  obtain ⟨_, _, _, h⟩ := exists_twinkled_eq it s
  rw [h]
  exact Iff.rfl

variable {it s}

/-- What is painted before the action is still shown after it. -/
theorem shows_twinkled {u : State} {col : Nat → Color} (hu : (frame u).Shows 24 s col) :
    (frame (twinkled it u)).Shows 24 (twinkled it s) col := by
  obtain ⟨step, aux0, aux1, h⟩ := exists_twinkled_setPix_eq it s
  have hsame : u = s.setPix u.pix := hu.samePixApart
  have hpainted : paints s (s.setPix u.pix) col := hsame ▸ hu.colours
  have hu' := (congrArg (twinkled it) hsame).trans (h u.pix)
  have hs : twinkled it s = ((s.setStep step).setAux0 aux0).setAux1 aux1 := h s.pix
  rw [hu', hs]
  exact ⟨frameTime_eq, rfl, hpainted⟩

end TwinkledFrame

/-- Pixel `i` has one of `n` sparks: the generator values after `seed`, scaled to positions. -/
abbrev sparkAt (len seed n i : Nat) : Prop :=
  ∃ m < n, (len * generator^[m + 1] seed) >>> 16 = i

/-- The first `n + 1` iterates are the first one and the `n` that follow from it. -/
theorem exists_iterate_lt_succ {α : Type} (f : α → α) (x : α) (P : α → Prop) (n : Nat) :
    (∃ m < n + 1, P (f^[m + 1] x)) ↔ (∃ m < n, P (f^[m + 1] (f x))) ∨ P (f x) := by
  rw [Nat.exists_lt_succ_left, or_comm]
  rfl

theorem sparkAt_succ_iff (len seed n i : Nat) :
    sparkAt len seed (n + 1) i ↔
      sparkAt len (generator seed) n i ∨ (len * generator seed) >>> 16 = i :=
  exists_iterate_lt_succ generator seed (fun p => (len * p) >>> 16 = i) n

theorem sparkPosition_eq (len p : Nat) :
    len * lcg p / 2 ^ twinkleShift = (len * generator p) >>> 16 :=
  lcg_eq_generator ▸ (Nat.shiftRight_eq_div_pow _ 16).symm

theorem segPalI_of_samePixApart {s u : State} (hsame : SamePixApart s u) (j : Nat) :
    segPalI j u = segPal j true 255 s := by
  rw [hsame]
  rfl

/-- One round of the replay lights the spark of the generator's next value. -/
theorem replay_succ {s u : State} (hsame : SamePixApart s u) (n seed : Nat) :
    replay (n + 1) seed u = replay n (generator seed)
      (segSet ((s.len * generator seed) >>> 16 : Nat)
        (segPal ((s.len * generator seed) >>> 16 : Nat) true 255 s) u) := by
  rw [replay, sparkPosition_eq, segPalI_of_samePixApart hsame, hsame.len, lcg_eq_generator]

theorem shows_segSet_spark {s u : State} {bg : Nat → Color} (hu : (frame u).Shows 24 s bg)
    (j : Nat) :
    (frame (segSet j (segPal j true 255 s) u)).Shows 24 s
      (fun i => if j = i then segPal i true 255 s else bg i) :=
  shows_lit hu 1 (fun _ => (j : Int)) (fun x => segPal x true 255 s) (fun i => j = i)
    fun i _ => by simp only [Nat.lt_one_iff, exists_eq_left, Nat.cast_inj]

/-- Every spark of a position has the same colour, so it does not matter which is lit last. -/
theorem shows_replay {s u : State} {bg : Nat → Color} (n seed : Nat)
    (hu : (frame u).Shows 24 s bg) :
    (frame (replay n seed u)).Shows 24 s
      (fun i => if sparkAt s.len seed n i then segPal i true 255 s else bg i) := by
  induction n generalizing seed u bg with
  | zero =>
    simpa only [replay, sparkAt, Nat.not_lt_zero, false_and, exists_false, if_false] using hu
  | succ n ih =>
    have hsame : SamePixApart s u := hu.samePixApart
    simp only [replay_succ hsame, sparkAt_succ_iff, ite_or]
    exact ih (generator seed) (shows_segSet_spark hu _)

theorem shows_fadeOut (amount : Nat) (s : State) :
    (frame (fadeOut amount s)).Shows 24 s
      (fun i => fadeToBlack (pixRead (s.segStart.toNat + i) s) amount false) :=
  shows_frame_of_pixRead (fadeOut_samePixApart amount s) (fadeToBlack · amount false)
    (pixRead_fadeOut amount s)

/-- Whether the action is due is read before the fade, which leaves STEP alone. -/
theorem fxTwinkle_eq (t : Nat) (s : State) :
    let w := twinkled (t / (20 + (255 - s.speed.toNat) * 5)) (fadeOut 224 s)
    fxTwinkle t s = frame (replay w.aux0.toNat (w.aux1.toNat &&& 0xFFFF) w) := by
  intro w
  have hsame : fadeOut 224 s = s.setPix _ := fadeOut_samePixApart 224 s
  have hstep : (fadeOut 224 s).step = s.step :=
    (congrArg State.step hsame).trans (State.setPix_step s _)
  have hdue : boundary (t / (20 + (255 - s.speed.toNat) * 5)) s =
      boundary (t / (20 + (255 - s.speed.toNat) * 5)) (fadeOut 224 s) := by
    rw [boundary, boundary, hstep]
  rw [and_ffff_eq_mod]
  unfold w twinkled
  rw [← hdue]
  rfl

theorem shows_fxTwinkle (t : Nat) (s : State) :
    let v := twinkled (t / (20 + (255 - s.speed.toNat) * 5)) s
    (fxTwinkle t s).Shows 24 v (fun i =>
      if sparkAt s.len (v.aux1.toNat &&& 0xFFFF) v.aux0.toNat i then segPal i true 255 s
      else fadeToBlack (pixRead (s.segStart.toNat + i) s) 224 false) := by
  intro v
  have hfaded : (frame (twinkled _ (fadeOut 224 s))).Shows 24 v _ :=
    shows_twinkled (shows_fadeOut 224 s)
  have hsame : twinkled _ (fadeOut 224 s) = v.setPix _ := hfaded.samePixApart
  have h := shows_replay v.aux0.toNat (v.aux1.toNat &&& 0xFFFF) hfaded
  rw [len_twinkled] at h
  simp only [v, segPal_twinkled] at h
  rw [fxTwinkle_eq, congrArg State.aux0 hsame, congrArg State.aux1 hsame]
  exact h

/-- Settles O57: the once-per-cycle action gives the registers, and a pixel shows its spark where it
has one, else its faded old colour. -/
theorem twinkleReplaysItsGenerator : Obligations.TwinkleReplaysItsGenerator := by
  unfold Obligations.TwinkleReplaysItsGenerator
  intro s hlen it full
  obtain ⟨u, hexec, hframe, hpaints⟩ :=
    exec_of_row_shows (i := .fxTwinkle) rfl hlen (shows_fxTwinkle (now s).toNat s)
  rw [paints_twinkled_iff] at hpaints
  refine ⟨u, twinkled it s, hexec, hframe, twinkled_of_eq,
    fun hit hfull => (twinkled_of_ne hit).trans (twinkleAdvance_of_full hfull),
    fun hit hfull => (twinkled_of_ne hit).trans (twinkleAdvance_of_not_full hfull),
    fun k hk => ?pixels⟩
  have hshown := (hpaints k).trans (if_pos hk)
  obtain ⟨hle, -⟩ := id hk
  simp only [Nat.add_sub_cancel' hle] at hshown
  exact ⟨fun hlit => hshown.trans (if_pos hlit),
    fun hunlit => hshown.trans (if_neg fun ⟨n, hn, hspark⟩ => hunlit n hn hspark)⟩

end Sys2Proof.Machine
end

section
/-! The decoder and the encoder undo each other, and the command table says which words decode
(spec/30_encoding.md R71 to R74, R79, R80). -/

namespace Sys2Proof

/-! ### A format decodes only the fields that its encoder builds (R71) -/

section Formats

variable {x : Fields} {i : Instr} {op : Nat}

/-- The fields of a word, with the bits its format fixes written out. -/
theorem fields_eq_mk {f : BitVec 2} {b : Byte} {imm : Half} (hop : x.op.toNat = op) (hf : x.f = f)
    (hb : x.b = b) (himm : x.imm = imm) : x = ⟨BitVec.ofNat 6 op, f, b, imm⟩ := by
  subst hop hf hb himm
  rw [BitVec.ofNat_toNat, BitVec.setWidth_eq]

/-- The command `i` is well-formed, and `x` are the fields of its word. -/
abbrev EncodedBy (x : Fields) (i : Instr) : Prop := i.wf = true ∧ encodeFields i = x

theorem encodedBy_of_formatN {g : Instr} (hop : x.op.toNat = op) (hg : EncodedBy (fieldsN op) g)
    (h : formatN x g = .ok i) : EncodedBy x i := by
  unfold formatN at h
  split at h
  case isTrue hzero =>
    obtain ⟨hf, hb, himm⟩ := hzero
    cases h
    rwa [fields_eq_mk hop hf hb himm]
  case isFalse => cases h

/-- Where `f[0]` chooses between two commands, each is met with its own flag. -/
theorem choice_cases {f : BitVec 2} {i0 i1 : Instr} {e : DecodeError}
    (h : (if f = 0 then .ok i0 else if f = 1 then .ok i1 else .error e) = Except.ok i) :
    (f = 0 ∧ i = i0) ∨ (f = 1 ∧ i = i1) := by
  split at h
  case isTrue h0 => cases h; exact .inl ⟨h0, rfl⟩
  case isFalse =>
    split at h
    case isTrue h1 => cases h; exact .inr ⟨h1, rfl⟩
    case isFalse => cases h

theorem encodedBy_of_formatNF {g0 g1 : Instr} (hop : x.op.toNat = op)
    (hg0 : EncodedBy (fieldsNF op 0) g0) (hg1 : EncodedBy (fieldsNF op 1) g1)
    (h : formatNF x g0 g1 = .ok i) : EncodedBy x i := by
  unfold formatNF at h
  split at h
  case isTrue hzero =>
    obtain ⟨hb, himm⟩ := hzero
    obtain ⟨hf, rfl⟩ | ⟨hf, rfl⟩ := choice_cases h <;> rwa [fields_eq_mk hop hf hb himm]
  case isFalse => cases h

theorem encodedBy_of_formatB {g : Byte → Instr} (hop : x.op.toNat = op)
    (hg : ∀ b, EncodedBy (fieldsB op b) (g b)) (h : formatB x g = .ok i) : EncodedBy x i := by
  unfold formatB at h
  split at h
  case isTrue hzero =>
    obtain ⟨hf, himm⟩ := hzero
    cases h
    have hx := hg x.b
    rwa [fieldsB, ← fields_eq_mk hop hf rfl himm] at hx
  case isFalse => cases h

theorem encodedBy_of_formatBF {g0 g1 : Byte → Instr} (hop : x.op.toNat = op)
    (hg0 : ∀ b, EncodedBy (fieldsBF op 0 b) (g0 b)) (hg1 : ∀ b, EncodedBy (fieldsBF op 1 b) (g1 b))
    (h : formatBF x g0 g1 = .ok i) : EncodedBy x i := by
  unfold formatBF at h
  split at h
  case isTrue himm =>
    obtain ⟨hf, rfl⟩ | ⟨hf, rfl⟩ := choice_cases h
    · have hx := hg0 x.b
      rwa [fieldsBF, ← fields_eq_mk hop hf rfl himm] at hx
    · have hx := hg1 x.b
      rwa [fieldsBF, ← fields_eq_mk hop hf rfl himm] at hx
  case isFalse => cases h

theorem encodedBy_of_formatI {g : Half → Instr} (hop : x.op.toNat = op)
    (hg : ∀ imm, EncodedBy (fieldsI op imm) (g imm)) (h : formatI x g = .ok i) :
    EncodedBy x i := by
  unfold formatI at h
  split at h
  case isTrue hzero =>
    obtain ⟨hf, hb⟩ := hzero
    cases h
    have hx := hg x.imm
    rwa [fieldsI, ← fields_eq_mk hop hf hb rfl] at hx
  case isFalse => cases h

/-- A half word is its high byte before its low byte. -/
theorem append_extract_bytes (imm : Half) :
    imm.extractLsb' 8 8 ++ imm.extractLsb' 0 8 = imm := by
  apply BitVec.eq_of_toNat_eq
  have h := imm.isLt
  simp only [append_toNat, BitVec.extractLsb'_toNat, Nat.shiftRight_eq_div_pow]
  omega

theorem encodedBy_of_formatP {g : Byte → Byte → Byte → Instr} (hop : x.op.toNat = op)
    (hg : ∀ hi lo b, EncodedBy (fieldsP op hi lo b) (g hi lo b)) (h : formatP x g = .ok i) :
    EncodedBy x i := by
  unfold formatP at h
  split at h
  case isTrue hf =>
    cases h
    have hx := hg (x.imm.extractLsb' 8 8) (x.imm.extractLsb' 0 8) x.b
    rwa [fieldsP, append_extract_bytes, ← fields_eq_mk hop hf rfl rfl] at hx
  case isFalse => cases h

theorem encodedBy_of_formatPF {g0 g1 : Half → Byte → Instr} (hop : x.op.toNat = op)
    (hg0 : ∀ imm b, EncodedBy (fieldsPF op 0 imm b) (g0 imm b))
    (hg1 : ∀ imm b, EncodedBy (fieldsPF op 1 imm b) (g1 imm b))
    (h : formatPF x g0 g1 = .ok i) : EncodedBy x i := by
  obtain ⟨hf, rfl⟩ | ⟨hf, rfl⟩ := choice_cases h
  · have hx := hg0 x.imm x.b
    rwa [fieldsPF, ← fields_eq_mk hop hf rfl rfl] at hx
  · have hx := hg1 x.imm x.b
    rwa [fieldsPF, ← fields_eq_mk hop hf rfl rfl] at hx

end Formats

/-! ### The effect rows (R73, R80) -/

/-- The ids that no FX row names are the general row's. -/
theorem effectRow_of_le {id : Byte} (h : 16 ≤ id.toNat) : effectRow id = .effect id := by
  unfold effectRow
  split
  case h_17 => rfl
  all_goals omega

/-- An id is found again in the row it selects. -/
theorem encodedBy_effectRow (id : Byte) : EncodedBy (fieldsB 0x30 id) (effectRow id) := by
  by_cases hrow : 16 ≤ id.toNat
  · rw [effectRow_of_le hrow]
    exact ⟨decide_eq_true hrow, rfl⟩
  · have hsmall : ∀ n < 16, EncodedBy (fieldsB 0x30 (BitVec.ofNat 8 n))
        (effectRow (BitVec.ofNat 8 n)) := by decide
    have h := hsmall id.toNat (Nat.not_le.1 hrow)
    rwa [BitVec.ofNat_toNat, BitVec.setWidth_eq] at h

/-! ### Round trips -/

/-- The opcode map, one case per opcode and the cases of one format together. -/
theorem encodedBy_of_decodeFields {x : Fields} {i : Instr} (h : decodeFields x = .ok i) :
    EncodedBy x i := by
  unfold decodeFields at h
  split at h
  case h_5 hop | h_6 hop | h_13 hop | h_16 hop | h_19 hop =>
    exact encodedBy_of_formatN hop ⟨rfl, rfl⟩ h
  case h_2 hop => exact encodedBy_of_formatNF hop ⟨rfl, rfl⟩ ⟨rfl, rfl⟩ h
  case h_1 hop | h_4 hop | h_7 hop | h_14 hop | h_15 hop =>
    exact encodedBy_of_formatB hop (fun _ => ⟨rfl, rfl⟩) h
  case h_3 hop => exact encodedBy_of_formatBF hop (fun _ => ⟨rfl, rfl⟩) (fun _ => ⟨rfl, rfl⟩) h
  case h_8 hop | h_9 hop | h_11 hop | h_12 hop | h_18 hop =>
    exact encodedBy_of_formatI hop (fun _ => ⟨rfl, rfl⟩) h
  case h_10 hop => exact encodedBy_of_formatP hop (fun _ _ _ => ⟨rfl, rfl⟩) h
  case h_17 hop =>
    exact encodedBy_of_formatPF hop (fun _ _ => ⟨rfl, rfl⟩) (fun _ _ => ⟨rfl, rfl⟩) h
  case h_20 hop => exact encodedBy_of_formatB hop encodedBy_effectRow h
  case h_21 => cases h

/-- Settles O2: the fields that decode are the fields of the command's own word. -/
theorem encodeOfDecodeIsTheWord : Obligations.EncodeOfDecodeIsTheWord := by
  unfold Obligations.EncodeOfDecodeIsTheWord
  intro w i h
  obtain ⟨hwf, hfields⟩ := encodedBy_of_decodeFields h
  exact ⟨hwf, by rw [encode, hfields, assemble_fieldsOf]⟩

/-- The two bytes of format P are read back from the half word built of them. -/
theorem formatP_fieldsP (op : Nat) (hi lo b : Byte) (g : Byte → Byte → Byte → Instr) :
    formatP (fieldsP op hi lo b) g = .ok (g hi lo b) := by
  have hhi : (hi ++ lo).extractLsb' 8 8 = hi := by
    apply BitVec.eq_of_toNat_eq
    simp only [append_toNat, BitVec.extractLsb'_toNat, Nat.shiftRight_eq_div_pow]
    omega
  have hlo : (hi ++ lo).extractLsb' 0 8 = lo := by
    apply BitVec.eq_of_toNat_eq
    simp only [append_toNat, BitVec.extractLsb'_toNat, Nat.shiftRight_eq_div_pow]
    omega
  simp only [formatP, fieldsP, if_true, hhi, hlo]

/-- The decoder finds the opcode of each command's fields, and its format accepts them. -/
theorem decodeFields_encodeFields {i : Instr} (h : i.wf = true) :
    decodeFields (encodeFields i) = .ok i := by
  cases i
  case palcolor pid pos bri => exact formatP_fieldsP 0x18 pid pos bri .palcolor
  case effect id => exact congrArg Except.ok (effectRow_of_le (of_decide_eq_true h))
  all_goals rfl

/-- Settles O1: the decoder reads the fields that the word was built from. -/
theorem decodeOfEncodeIsTheCommand : Obligations.DecodeOfEncodeIsTheCommand := by
  unfold Obligations.DecodeOfEncodeIsTheCommand
  intro i h
  rw [encode, decode_assemble, decodeFields_encodeFields h]

/-- Settles O4: eleven of the words are those that their commands encode to; in the other three the
fields show an unused bit or no listed opcode. -/
theorem sampleWordsDecode : Obligations.SampleWordsDecode := by
  have legal {w : Word} {i : Instr} (hw : encode i = w) (hwf : i.wf = true) : decode w = .ok i :=
    hw ▸ decodeOfEncodeIsTheCommand i hwf
  unfold Obligations.SampleWordsDecode
  exact ⟨legal rfl rfl, legal rfl rfl, legal rfl rfl, legal rfl rfl, legal rfl rfl, legal rfl rfl,
    legal rfl rfl, legal rfl rfl, legal rfl rfl, legal rfl rfl, legal rfl rfl, rfl, rfl, rfl⟩

/-! ### The rows of the table (R73) -/

section Rows

variable {x : Fields} {op : Nat}

/-- The fields of a word are the only ones it is built from. -/
theorem assemble_injective : Function.Injective assemble := fun x y h => by
  rw [← fieldsOf_assemble x, h, fieldsOf_assemble]

/-- A word that matches a row has the row's opcode, and no bit set that the row's mask keeps. -/
theorem fields_of_and_mask (m : Fields) (hop : m.op = BitVec.allOnes 6)
    (h : assemble x &&& assemble m = assemble (fieldsN op)) :
    x = ⟨BitVec.ofNat 6 op, x.f, x.b, x.imm⟩ ∧ x.f &&& m.f = 0 ∧ x.b &&& m.b = 0 ∧
      x.imm &&& m.imm = 0 := by
  rw [assemble_and_assemble] at h
  have hfields := assemble_injective h
  simp only [fieldsN, Fields.mk.injEq, hop, BitVec.and_allOnes] at hfields
  obtain ⟨hxop, hf, hb, himm⟩ := hfields
  refine ⟨?_, hf, hb, himm⟩
  rw [← hxop]

/-- With `f[1]` zero, `f` is one of the two flags. -/
theorem flag_cases {f : BitVec 2} (h : f &&& 2 = 0) : f = 0 ∨ f = 1 := by
  have hflag : ∀ g : BitVec 2, g &&& 2 = 0 → g = 0 ∨ g = 1 := by decide
  exact hflag f h

/-- The decoder takes the words of opcode `op` by the format `format`. -/
abbrev DecodedBy (op : Nat) (format : Fields → Except DecodeError Instr) : Prop :=
  ∀ f b imm, decodeFields ⟨BitVec.ofNat 6 op, f, b, imm⟩ = format ⟨BitVec.ofNat 6 op, f, b, imm⟩

/-- A matching word decodes if its format accepts it, given the bits that the mask finds zero. -/
theorem decodes_of_mask {format : Fields → Except DecodeError Instr} (m : Fields)
    (hop : m.op = BitVec.allOnes 6) (hg : DecodedBy op format)
    (haccepts : x.f &&& m.f = 0 → x.b &&& m.b = 0 → x.imm &&& m.imm = 0 → ∃ i, format x = .ok i)
    (h : assemble x &&& assemble m = assemble (fieldsN op)) : ∃ i, decodeFields x = .ok i := by
  obtain ⟨hx, hf, hb, himm⟩ := fields_of_and_mask m hop h
  have hdecode : decodeFields x = format x := by rw [hx]; exact hg x.f x.b x.imm
  rw [hdecode]
  exact haccepts hf hb himm

theorem decodes_of_maskN {g : Instr} (hg : DecodedBy op (formatN · g))
    (h : assemble x &&& 0xFFFFFFFF#32 = assemble (fieldsN op)) : ∃ i, decodeFields x = .ok i := by
  refine decodes_of_mask ⟨.allOnes 6, .allOnes 2, .allOnes 8, .allOnes 16⟩ rfl hg
    (fun hf hb himm => ?_) h
  rw [BitVec.and_allOnes] at hf hb himm
  exact ⟨g, if_pos ⟨hf, hb, himm⟩⟩

theorem decodes_of_maskNF {g0 g1 : Instr} (hg : DecodedBy op (formatNF · g0 g1))
    (h : assemble x &&& 0xFEFFFFFF#32 = assemble (fieldsN op)) : ∃ i, decodeFields x = .ok i := by
  refine decodes_of_mask ⟨.allOnes 6, 2, .allOnes 8, .allOnes 16⟩ rfl hg
    (fun hf hb himm => ?_) h
  rw [BitVec.and_allOnes] at hb himm
  obtain hf0 | hf1 := flag_cases hf
  · exact ⟨g0, by simp [formatNF, hb, himm, hf0]⟩
  · exact ⟨g1, by simp [formatNF, hb, himm, hf1]⟩

theorem decodes_of_maskB {g : Byte → Instr} (hg : DecodedBy op (formatB · g))
    (h : assemble x &&& 0xFF00FFFF#32 = assemble (fieldsN op)) : ∃ i, decodeFields x = .ok i := by
  refine decodes_of_mask ⟨.allOnes 6, .allOnes 2, 0, .allOnes 16⟩ rfl hg
    (fun hf _ himm => ?_) h
  rw [BitVec.and_allOnes] at hf himm
  exact ⟨g x.b, if_pos ⟨hf, himm⟩⟩

theorem decodes_of_maskBF {g0 g1 : Byte → Instr} (hg : DecodedBy op (formatBF · g0 g1))
    (h : assemble x &&& 0xFE00FFFF#32 = assemble (fieldsN op)) : ∃ i, decodeFields x = .ok i := by
  refine decodes_of_mask ⟨.allOnes 6, 2, 0, .allOnes 16⟩ rfl hg (fun hf _ himm => ?_) h
  rw [BitVec.and_allOnes] at himm
  obtain hf0 | hf1 := flag_cases hf
  · exact ⟨g0 x.b, by simp [formatBF, himm, hf0]⟩
  · exact ⟨g1 x.b, by simp [formatBF, himm, hf1]⟩

theorem decodes_of_maskI {g : Half → Instr} (hg : DecodedBy op (formatI · g))
    (h : assemble x &&& 0xFFFF0000#32 = assemble (fieldsN op)) : ∃ i, decodeFields x = .ok i := by
  refine decodes_of_mask ⟨.allOnes 6, .allOnes 2, .allOnes 8, 0⟩ rfl hg (fun hf hb _ => ?_) h
  rw [BitVec.and_allOnes] at hf hb
  exact ⟨g x.imm, if_pos ⟨hf, hb⟩⟩

theorem decodes_of_maskP {g : Byte → Byte → Byte → Instr} (hg : DecodedBy op (formatP · g))
    (h : assemble x &&& 0xFF000000#32 = assemble (fieldsN op)) : ∃ i, decodeFields x = .ok i := by
  refine decodes_of_mask ⟨.allOnes 6, .allOnes 2, 0, 0⟩ rfl hg (fun hf _ _ => ?_) h
  rw [BitVec.and_allOnes] at hf
  exact ⟨g _ _ x.b, if_pos hf⟩

theorem decodes_of_maskPF {g0 g1 : Half → Byte → Instr} (hg : DecodedBy op (formatPF · g0 g1))
    (h : assemble x &&& 0xFE000000#32 = assemble (fieldsN op)) : ∃ i, decodeFields x = .ok i := by
  refine decodes_of_mask ⟨.allOnes 6, 2, 0, 0⟩ rfl hg (fun hf _ _ => ?_) h
  obtain hf0 | hf1 := flag_cases hf
  · exact ⟨g0 x.imm x.b, by simp [formatPF, hf0]⟩
  · exact ⟨g1 x.imm x.b, by simp [formatPF, hf1]⟩

/-- A word that matches a row decodes: each row has the mask of the format by which its opcode is
decoded. -/
theorem decodes_of_commandRow :
    ∀ row ∈ commandRows, assemble x &&& row.mask = row.pattern → ∃ i, decodeFields x = .ok i := by
  simp only [commandRows, List.forall_mem_cons, List.not_mem_nil, false_implies, implies_true,
    and_true]
  exact ⟨decodes_of_maskB (op := 0x01) fun _ _ _ => rfl,
    decodes_of_maskNF (op := 0x02) fun _ _ _ => rfl,
    decodes_of_maskBF (op := 0x03) fun _ _ _ => rfl,
    decodes_of_maskB (op := 0x08) fun _ _ _ => rfl,
    decodes_of_maskN (op := 0x09) fun _ _ _ => rfl,
    decodes_of_maskN (op := 0x0A) fun _ _ _ => rfl,
    decodes_of_maskB (op := 0x10) fun _ _ _ => rfl,
    decodes_of_maskI (op := 0x11) fun _ _ _ => rfl,
    decodes_of_maskI (op := 0x12) fun _ _ _ => rfl,
    decodes_of_maskP (op := 0x18) fun _ _ _ => rfl,
    decodes_of_maskI (op := 0x20) fun _ _ _ => rfl,
    decodes_of_maskI (op := 0x21) fun _ _ _ => rfl,
    decodes_of_maskN (op := 0x22) fun _ _ _ => rfl,
    decodes_of_maskB (op := 0x23) fun _ _ _ => rfl,
    decodes_of_maskB (op := 0x24) fun _ _ _ => rfl,
    decodes_of_maskN (op := 0x25) fun _ _ _ => rfl,
    decodes_of_maskPF (op := 0x26) fun _ _ _ => rfl,
    decodes_of_maskI (op := 0x27) fun _ _ _ => rfl,
    decodes_of_maskN (op := 0x28) fun _ _ _ => rfl,
    decodes_of_maskB (op := 0x30) fun _ _ _ => rfl⟩

end Rows

/-- Every mask keeps the opcode, and a pattern is an opcode alone, so a matching row's pattern is
the word's opcode. -/
theorem pattern_eq_opcode {w : Word} {row : CommandRow} (hrow : row ∈ commandRows)
    (h : w &&& row.mask = row.pattern) : row.pattern = w &&& 0xFC000000#32 := by
  have hkeeps : ∀ r ∈ commandRows, r.mask &&& 0xFC000000#32 = 0xFC000000#32 ∧
      r.pattern &&& 0xFC000000#32 = r.pattern := by decide
  obtain ⟨hmask, hpattern⟩ := hkeeps row hrow
  rw [← hpattern, ← h, BitVec.and_assoc, hmask]

/-- No two rows have the same opcode. -/
theorem commandRow_eq_of_pattern {row row' : CommandRow} (hrow : row ∈ commandRows)
    (hrow' : row' ∈ commandRows) (h : row.pattern = row'.pattern) : row = row' := by
  have hnodup : (commandRows.map CommandRow.pattern).Nodup := by decide
  exact List.inj_on_of_nodup_map hnodup hrow hrow' h

/-- Settles O3: a word decodes by the format of its row, and its opcode names the row. -/
theorem legalWordsMatchOneTableRow : Obligations.LegalWordsMatchOneTableRow := by
  unfold Obligations.LegalWordsMatchOneTableRow
  refine fun w => ⟨⟨fun ⟨i, h⟩ => exists_commandRow_of_decode h, fun ⟨row, hrow, h⟩ => ?decodes⟩,
    fun row hrow row' hrow' h h' => ?unique⟩
  case decodes =>
    rw [← assemble_fieldsOf w] at h
    exact decodes_of_commandRow row hrow h
  case unique =>
    exact commandRow_eq_of_pattern hrow hrow'
      ((pattern_eq_opcode hrow h).trans (pattern_eq_opcode hrow' h').symm)

end Sys2Proof
end

section
/-! What a command is made of: a chain of changes to the result, the scratch registers, DATA, the
segment's pixels and the random source. What every change keeps, every command keeps
(spec/10_state.md, spec/20_memory.md section 3, spec/60_exceptions.md section 7). -/

namespace Sys2Proof.Machine

open Sys2Proof.Claims

/-! ### The changes -/

/-- One change that a command makes to a state; `mayDraw` says whether it can be a random draw. -/
inductive Change (mayDraw : Prop) (s : State) : State → Prop
  | setR (v : Word) : Change mayDraw s (s.setR v)
  | setCall (v : Word) : Change mayDraw s (s.setCall v)
  | setStep (v : Word) : Change mayDraw s (s.setStep v)
  | setAux0 (v : Word) : Change mayDraw s (s.setAux0 v)
  | setAux1 (v : Word) : Change mayDraw s (s.setAux1 v)
  | setDataLen (v : Half) (h : v.toNat ≤ s.cfg.dataCap) : Change mayDraw s (s.setDataLen v)
  | dataWrite (k : Nat) (v : Byte) (h : k < s.cfg.dataCap) : Change mayDraw s (dataWrite k v s)
  | segSet (i : Int) (c : Color) : Change mayDraw s (segSet i c s)
  | draw (h : mayDraw) : Change mayDraw s (afterDraw s)

/-- A chain of changes. -/
abbrev Changes (mayDraw : Prop) : State → State → Prop := Relation.ReflTransGen (Change mayDraw)

/-- `s` with the result, the scratch registers, the memories and the draws of `t`. -/
def State.withScratchOf (s t : State) : State :=
  { s with
    r := t.r, call := t.call, step := t.step, aux0 := t.aux0, aux1 := t.aux1,
    dataLen := t.dataLen, data := t.data, pix := t.pix,
    env := { s.env with draws := t.env.draws, drawCount := t.env.drawCount } }

section Changes

variable {mayDraw : Prop} {s t u : State}

theorem Change.eq_withScratchOf (h : Change mayDraw s t) : t = s.withScratchOf t := by
  cases h <;> rfl

theorem Changes.eq_withScratchOf (h : Changes mayDraw s t) : t = s.withScratchOf t := by
  induction h with
  | refl => rfl
  | @tail u v _ hchange ih =>
    calc v = u.withScratchOf v := hchange.eq_withScratchOf
      _ = (s.withScratchOf u).withScratchOf v := congrArg (State.withScratchOf · v) ih
      _ = s.withScratchOf v := rfl

theorem Changes.cfg (h : Changes mayDraw s t) : t.cfg = s.cfg := by
  rw [h.eq_withScratchOf]
  rfl

theorem Changes.inSegment_iff (h : Changes mayDraw s t) (k : Nat) :
    inSegment t k ↔ inSegment s k := by
  rw [h.eq_withScratchOf]
  rfl

/-- A change reaches PIX only through a segment access, which the base-and-bound rule keeps
inside. -/
theorem Change.pixRead_outside (h : Change mayDraw s t) {k : Nat} (hk : ¬inSegment s k) :
    pixRead k t = pixRead k s := by
  cases h
  case segSet i c =>
    rw [pixRead_segSet, if_neg fun hi => hk (segIndex_bounds hi)]
  all_goals rfl

theorem Changes.pixRead_outside (h : Changes mayDraw s t) {k : Nat} (hk : ¬inSegment s k) :
    pixRead k t = pixRead k s := by
  induction h with
  | refl => rfl
  | tail hbefore hchange ih =>
    exact (hchange.pixRead_outside (mt (Changes.inSegment_iff hbefore k).1 hk)).trans ih

theorem Change.env (h : Change mayDraw s t) (hdraw : ¬mayDraw) : t.env = s.env := by
  cases h
  case draw hmay => exact absurd hmay hdraw
  all_goals rfl

theorem Changes.env (h : Changes mayDraw s t) (hdraw : ¬mayDraw) : t.env = s.env := by
  induction h with
  | refl => rfl
  | tail _ hchange ih => exact (hchange.env hdraw).trans ih

/-! ### Chains of changes, by the operations that make them -/

/-- A loop whose rounds are chains of changes. -/
theorem changes_forUpTo (n : Nat) (f : Nat → State → State)
    (h : ∀ i < n, ∀ u, Changes mayDraw s u → Changes mayDraw u (f i u)) :
    Changes mayDraw s (forUpTo n f s) :=
  forUpTo_keeps (Changes mayDraw s) n f s .refl fun i hi u hu => hu.trans (h i hi u hu)

theorem changes_forUpTo_segSet (n : Nat) (ix : Nat → Int) (c : Nat → State → Color) (s : State) :
    Changes mayDraw s (forUpTo n (fun i u => segSet (ix i) (c i u) u) s) :=
  changes_forUpTo n _ fun i _ u _ => .single (.segSet (ix i) (c i u))

theorem changes_paint (f : Nat → Color) (s : State) : Changes mayDraw s (paint f s) :=
  changes_forUpTo_segSet s.len (fun i => (i : Int)) (fun i _ => f i) s

theorem changes_fadeOut (amount : Nat) (s : State) : Changes mayDraw s (fadeOut amount s) :=
  changes_forUpTo_segSet s.len (fun i => (i : Int))
    (fun i u => fadeToBlack (segGet i u) amount false) s

theorem changes_blur (amount : Nat) (s : State) : Changes mayDraw s (blur amount s) := by
  unfold blur
  split
  · exact .refl
  · exact changes_paint _ s

theorem changes_segReset (s : State) : Changes mayDraw s (segReset s) :=
  ((((Relation.ReflTransGen.single (.setCall 0)).tail (.setStep 0)).tail (.setAux0 0)).tail
    (.setAux1 0)).tail (.setDataLen 0 (Nat.zero_le _))

theorem changes_replay (n p : Nat) (s : State) : Changes mayDraw s (replay n p s) := by
  induction n generalizing p s with
  | zero => exact .refl
  | succ n ih => exact .head (.segSet _ _) (ih _ _)

/-- The buffer fits, so each of its bytes is below `DATA_CAP`. -/
theorem changes_allocate {n : Nat} (hn : n ≤ s.cfg.dataCap) :
    Changes mayDraw s (allocate n s) := by
  have hlen : (BitVec.ofNat 16 n).toNat ≤ s.cfg.dataCap := by
    rw [BitVec.toNat_ofNat]
    exact (Nat.mod_le _ _).trans hn
  refine .head (.setDataLen _ hlen) (changes_forUpTo n _ fun i hi u hu => .single ?_)
  exact .dataWrite i 0 (hu.cfg ▸ Nat.lt_of_lt_of_le hi hn)

theorem changes_dynamicPixel (hdraw : mayDraw) {i : Nat} (hi : i < s.cfg.dataCap) :
    Changes mayDraw s (dynamicPixel i s) := by
  unfold dynamicPixel
  simp only []
  split
  · exact ((Relation.ReflTransGen.single (.draw hdraw)).tail (.draw hdraw)).tail
      (.dataWrite i _ hi)
  · exact .single (.draw hdraw)

/-! ### Chains of changes, effect by effect -/

section Effects

variable (t : Nat) (s : State)

theorem changes_fxStatic : Changes mayDraw s (fxStatic t s).state := changes_paint _ s

theorem changes_blinkFrame (cyc onT : Nat) :
    Changes mayDraw s (blinkFrame cyc onT t s).state := by
  refine .head (.setStep (natWord (t / cyc))) ?_
  simp only [blinkFrame, frame]
  split
  · exact changes_paint _ _
  · exact changes_paint _ _

theorem changes_scanCommon (dual : Bool) : Changes mayDraw s (scanCommon dual t s).state := by
  unfold scanCommon
  split
  · exact changes_fxStatic t s
  · refine Relation.ReflTransGen.trans ?mirrored (changes_forUpTo_segSet _ _ _ _)
    cases dual
    · exact changes_paint _ s
    · exact (changes_paint _ s).trans (changes_forUpTo_segSet _ _ _ _)

theorem changes_fxRainbow : Changes mayDraw s (fxRainbow t s).state := by
  simp only [fxRainbow, frame]
  split
  · exact changes_paint _ s
  · exact changes_paint _ s

theorem changes_fxTheater : Changes mayDraw s (fxTheater t s).state := by
  simp only [fxTheater, frame]
  split
  · exact .head (.setAux0 _) (.head (.setStep _) (changes_paint _ _))
  · exact changes_paint _ s

theorem changes_fxWipe : Changes mayDraw s (fxWipe t s).state := by
  unfold fxWipe
  split
  · exact changes_fxStatic t s
  · exact changes_forUpTo_segSet _ _ _ s

theorem changes_fxRandomColor (hdraw : mayDraw) :
    Changes mayDraw s (fxRandomColor t s).state := by
  simp only [fxRandomColor, frame]
  split
  · exact .head (.draw hdraw) (.head (.setAux1 _) (.head (.setAux0 _) (.head (.setStep _)
      (changes_paint _ _))))
  · exact changes_paint _ s

/-- Dynamic's buffer, allocated again where its length is not that of the segment (R184). -/
def allocated (s : State) : State := if s.dataLen.toNat ≠ s.len then allocate s.len s else s

/-- Dynamic's redraw of every hue in the buffer of `u`, if one is due in `s` (R184). -/
def redrawn (it : Nat) (s u : State) : State :=
  if boundary it s ∧ s.speed ≠ 0 then (forUpTo s.len dynamicPixel u).setStep (natWord it) else u

/-- The state that Dynamic's frame paints the hues of. -/
def dynamicUpdate (t : Nat) (s : State) : State :=
  redrawn (t / dynamicCycle s.speed.toNat) s (allocated s)

theorem fxDynamic_of_len_le_dataCap {s : State} (h : s.len ≤ s.cfg.dataCap) (t : Nat) :
    fxDynamic t s =
      frame (paint (fun i => hueWheel (dataRead i (dynamicUpdate t s)).toNat)
        (dynamicUpdate t s)) :=
  if_neg (Nat.not_lt.2 h)

theorem changes_dynamicUpdate (hdraw : mayDraw) (hfits : s.len ≤ s.cfg.dataCap) :
    Changes mayDraw s (dynamicUpdate t s) := by
  have halloc : Changes mayDraw s (allocated s) := by
    unfold allocated
    split
    · exact changes_allocate hfits
    · exact .refl
  refine halloc.trans ?_
  unfold dynamicUpdate redrawn
  split
  · refine Relation.ReflTransGen.tail (changes_forUpTo s.len dynamicPixel fun i hi u hu => ?_)
      (.setStep _)
    exact changes_dynamicPixel hdraw (Changes.cfg (halloc.trans hu) ▸ Nat.lt_of_lt_of_le hi hfits)
  · exact .refl

theorem changes_fxDynamic (hdraw : mayDraw) : Changes mayDraw s (fxDynamic t s).state := by
  by_cases hcap : s.cfg.dataCap < s.len
  · rw [fxDynamic_of_dataCap_lt hcap]
    exact changes_fxStatic t s
  · rw [fxDynamic_of_len_le_dataCap (Nat.not_lt.1 hcap)]
    exact (changes_dynamicUpdate t s hdraw (Nat.not_lt.1 hcap)).trans (changes_paint _ _)

theorem changes_twinkleAdvance (it : Nat) : Changes mayDraw s (twinkleAdvance it s) := by
  unfold twinkleAdvance
  simp only []
  split
  · exact .head (.setAux0 _) (.head (.setAux1 _) (.head (.setAux0 _) (.single (.setStep _))))
  · exact .head (.setAux0 _) (.single (.setStep _))

theorem changes_fxTwinkle : Changes mayDraw s (fxTwinkle t s).state := by
  refine (changes_fadeOut twinkleFade s).trans (Relation.ReflTransGen.trans ?advance
    (changes_replay _ _ _))
  split
  · exact changes_twinkleAdvance _ _
  · exact .refl

theorem changes_fxSparkle (hdraw : mayDraw) : Changes mayDraw s (fxSparkle t s).state := by
  refine (changes_paint (fun i => segPalI i s) s).trans (Relation.ReflTransGen.tail ?draw
    (.segSet _ _))
  split
  · exact .head (.draw hdraw) (.head (.setAux0 _) (.single (.setStep _)))
  · exact .refl

end Effects

/-- Every row of the registry is a chain of changes, and only three of them draw. -/
theorem changes_runEffect (n t : Nat) (s : State) (hdraw : n = 12 ∨ n = 13 ∨ n = 15 → mayDraw) :
    Changes mayDraw s (runEffect n t s).state := by
  unfold runEffect
  split
  case h_2 | h_3 => exact changes_blinkFrame t s _ _
  case h_6 | h_7 => exact changes_scanCommon t s _
  case h_8 => exact changes_fxRainbow t s
  case h_10 => exact changes_fxTheater t s
  case h_12 => exact changes_fxWipe t s
  case h_13 => exact changes_fxRandomColor t s (hdraw (by decide))
  case h_14 => exact changes_fxDynamic t s (hdraw (by decide))
  case h_15 => exact changes_fxTwinkle t s
  case h_16 => exact changes_fxSparkle t s (hdraw (by decide))
  all_goals exact changes_paint _ s

/-- The draws of an EFFECT command are its row's; an empty segment runs Static, which takes none. -/
theorem changes_frameFor (n : Nat) (s : State) (hdraw : n = 12 ∨ n = 13 ∨ n = 15 → mayDraw) :
    Changes mayDraw s (frameFor n s).state := by
  refine changes_runEffect _ _ s fun h => hdraw ?_
  split at h
  · omega
  · exact h

theorem changes_finishFrame {f : Frame} (h : Changes mayDraw s f.state) :
    Changes mayDraw s (finishFrame f) :=
  (h.tail (.setR _)).tail (.setCall _)

end Changes

/-! ### Every command -/

/-- The commands that can take a random draw (R17). -/
abbrev mayDraw (i : Instr) : Prop :=
  effectNumber i = some 12 ∨ effectNumber i = some 13 ∨ effectNumber i = some 15

/-- The commands other than EFFECT: most write R alone. -/
theorem exec_changes_of_effectNumber_eq_none {i : Instr} (hid : effectNumber i = none)
    (s : State) : ∃ t, exec i s = .next t ∧ Changes (mayDraw i) s t := by
  cases i
  case setpix i => exact ⟨_, rfl, .single (.segSet _ _)⟩
  case fill => exact ⟨_, rfl, changes_paint _ s⟩
  case fadeout amount => exact ⟨_, rfl, changes_fadeOut _ s⟩
  case blur amount => exact ⟨_, rfl, changes_blur _ s⟩
  case reset => exact ⟨_, rfl, changes_segReset s⟩
  case blend | add | addP | fade | fadeV | wheel | hsv2rgb | rgb2hsv | sin8 | sin16 | tri16
    | palcolor | getpix | now | segpal | segpalI | getcolor => exact ⟨_, rfl, .single (.setR _)⟩
  all_goals cases hid

/-- Every command completes, and what it does is a chain of changes. -/
theorem exec_changes (i : Instr) (s : State) :
    ∃ t, exec i s = .next t ∧ Changes (mayDraw i) s t := by
  cases hid : effectNumber i with
  | none => exact exec_changes_of_effectNumber_eq_none hid s
  | some n =>
    refine ⟨_, exec_of_effectNumber hid s, changes_finishFrame (changes_frameFor n s ?_)⟩
    rintro (rfl | rfl | rfl)
    exacts [.inl hid, .inr (.inl hid), .inr (.inr hid)]

theorem changes_of_exec {i : Instr} {s t : State} (h : exec i s = .next t) :
    Changes (mayDraw i) s t := by
  obtain ⟨u, hexec, hchanges⟩ := exec_changes i s
  cases hexec.symm.trans h
  exact hchanges

/-- Settles O19: no command stops. -/
theorem everyCommandCompletes : Obligations.EveryCommandCompletes := by
  unfold Obligations.EveryCommandCompletes
  intro i s
  obtain ⟨t, hexec, -⟩ := exec_changes i s
  exact ⟨t, hexec⟩

/-- Settles O23: no change writes anything else. -/
theorem commandsLeaveTheHostsRegisters : Obligations.CommandsLeaveTheHostsRegisters := by
  unfold Obligations.CommandsLeaveTheHostsRegisters
  exact fun _ _ _ hexec => (changes_of_exec hexec).eq_withScratchOf

/-- Settles O24: every write to PIX is a segment access. -/
theorem pixelsOutsideTheSegmentStay : Obligations.PixelsOutsideTheSegmentStay := by
  unfold Obligations.PixelsOutsideTheSegmentStay
  exact fun _ _ _ hexec _ hk => (changes_of_exec hexec).pixRead_outside hk

/-- Settles O25: a draw is the only change to the agents around the engine. -/
theorem onlyThreeEffectsDraw : Obligations.OnlyThreeEffectsDraw := by
  unfold Obligations.OnlyThreeEffectsDraw
  exact fun _ _ _ hexec h12 h13 h15 =>
    (changes_of_exec hexec).env (not_or.2 ⟨h12, not_or.2 ⟨h13, h15⟩⟩)

end Sys2Proof.Machine
end

section
/-! What a step can do, said once, and what follows for `ILL`, the clock and the good states
(spec/10_state.md R22, R37, spec/60_exceptions.md section 6). -/

namespace Sys2Proof.Machine

open Sys2Proof.Claims

/-! ### The cases of a step -/

/-- The four things a step can do: idle, run a command, meet an illegal word, or perform an event
that is no command. -/
inductive StepCase (s : State) : State → Prop
  | idle (hnone : pending s = none) : StepCase s (letTimePass s)
  | command (w : Word) (i : Instr) (t : State) (hsome : pending s = some (.wr cmdAddr w))
      (hdec : decode w = .ok i) (hexec : exec i (accept s) = .next t) : StepCase s t
  | illegal (w : Word) (e : DecodeError) (hsome : pending s = some (.wr cmdAddr w))
      (hdec : decode w = .error e) : StepCase s (illegalCommand (accept s))
  | event (e : Event) (hsome : pending s = some e) (hcmd : commandOf e = none) :
      StepCase s (perform e (accept s))

theorem commandOf_eq_some {e : Event} {w : Word} (h : commandOf e = some w) :
    e = .wr cmdAddr w := by
  cases e
  case wr addr d =>
    simp only [commandOf, Option.ite_none_right_eq_some, Option.some.injEq] at h
    obtain ⟨rfl, rfl⟩ := h
    rfl
  all_goals cases h

/-- Every step has a next state, and it is one of the four cases. -/
theorem step_cases (s : State) : ∃ t, step s = .next t ∧ StepCase s t := by
  unfold step
  cases hsome : pending s with
  | none => exact ⟨_, rfl, .idle hsome⟩
  | some e =>
    cases hcmd : commandOf e with
    | none => exact ⟨_, by simp only [hcmd], .event e hsome hcmd⟩
    | some w =>
      obtain rfl := commandOf_eq_some hcmd
      simp only [hcmd, runWord]
      cases hdec : decode w with
      | error err => exact ⟨_, rfl, .illegal w err hsome hdec⟩
      | ok i =>
        obtain ⟨t, hexec⟩ := everyCommandCompletes i (accept s)
        exact ⟨t, hexec, .command w i t hsome hdec hexec⟩

theorem stepCase_of_step {s t : State} (h : step s = .next t) : StepCase s t := by
  obtain ⟨u, hstep, hcase⟩ := step_cases s
  cases hstep.symm.trans h
  exact hcase

/-- A run takes the step and goes on from there. -/
theorem run_succ_of_step {M : Host.Core} {s t : M.State} (h : M.step s = .next t) (n : Nat) :
    M.run (n + 1) s = M.run n t := by
  rw [Host.Core.run, h]

/-- Settles O20: a run of `n` steps ends in a next state, by induction on `n`. -/
theorem theMachineRunsForEver : Obligations.TheMachineRunsForEver := by
  unfold Obligations.TheMachineRunsForEver
  intro s n
  induction n generalizing s with
  | zero => exact ⟨s, rfl⟩
  | succ n ih =>
    obtain ⟨t, hstep, -⟩ := step_cases s
    obtain ⟨u, hrun⟩ := ih t
    exact ⟨u, (run_succ_of_step (M := core) hstep n).trans hrun⟩

/-! ### What the host's register writes leave -/

/-- A register write reaches no memory, no parameter and not the time, and raises no flag. -/
structure KeepsBackground (s t : State) : Prop where
  cfg : t.cfg = s.cfg
  pix : t.pix = s.pix
  data : t.data = s.data
  dataLen : t.dataLen = s.dataLen
  t0 : t.t0 = s.t0
  env : t.env = s.env
  ill : t.ill = true → s.ill = true

theorem regWrite_keepsBackground (addr : Half) (d : Word) (s : State) :
    KeepsBackground s (regWrite addr d s) := by
  unfold regWrite
  split
  case h_1 => exact ⟨rfl, rfl, rfl, rfl, rfl, rfl, fun h => (Bool.and_eq_true_iff.1 h).1⟩
  all_goals exact ⟨rfl, rfl, rfl, rfl, rfl, rfl, id⟩

/-- An event other than hardware reset leaves the time alone, and raises no flag. -/
theorem perform_keeps_time_and_ill {e : Event} (he : e ≠ .hardReset) (s : State) :
    (perform e s).t0 = s.t0 ∧ (perform e s).env.clk = s.env.clk ∧
      ((perform e s).ill = true → s.ill = true) := by
  cases e with
  | wr addr d =>
    obtain ⟨k, -, h⟩ | ⟨k, -, -, h⟩ | ⟨-, -, h⟩ := hostWrite_cases addr d s
    · rw [perform, h]
      exact ⟨rfl, rfl, id⟩
    · rw [perform, h]
      exact ⟨rfl, rfl, id⟩
    · have hkeeps := regWrite_keepsBackground addr d s
      rw [perform, h, hkeeps.env]
      exact ⟨hkeeps.t0, rfl, hkeeps.ill⟩
  | rd addr => exact ⟨rfl, rfl, id⟩
  | foreign k c =>
    rw [perform, foreignWrite]
    split <;> exact ⟨rfl, rfl, id⟩
  | hardReset => exact absurd rfl he

/-! ### `STATUS.ILL` (R22) -/

/-- Settles O8: no command writes `ILL`, hardware reset clears it, and no other event raises it. -/
theorem onlyIllegalWordsRaiseIll : Obligations.OnlyIllegalWordsRaiseIll := by
  unfold Obligations.OnlyIllegalWordsRaiseIll
  intro s t hstep hclear hset
  have hstays : s.ill ≠ true := by simp [hclear]
  cases stepCase_of_step hstep with
  | idle hnone => exact absurd hset hstays
  | command w i _ hsome hdec hexec =>
    rw [(changes_of_exec hexec).eq_withScratchOf] at hset
    exact absurd hset hstays
  | illegal w e hsome hdec => exact ⟨w, e, hsome, hdec⟩
  | event e hsome hcmd =>
    by_cases he : e = .hardReset
    · subst he
      cases hset
    · obtain ⟨-, -, hill⟩ := perform_keeps_time_and_ill he (accept s)
      exact absurd (hill hset) hstays

/-! ### The elapsed time (R207) -/

theorem clk_le_accept (s : State) : s.env.clk ≤ (accept s).env.clk := letTimePass_clk s

/-- Without a hardware reset the origin stays and the clock does not run back. -/
theorem step_time {s t : State} (hstep : step s = .next t)
    (hreset : s.env.host.head? ≠ some .hardReset) : t.t0 = s.t0 ∧ s.env.clk ≤ t.env.clk := by
  cases stepCase_of_step hstep with
  | idle hnone => exact ⟨rfl, letTimePass_clk s⟩
  | command w i _ hsome hdec hexec =>
    rw [(changes_of_exec hexec).eq_withScratchOf]
    exact ⟨rfl, clk_le_accept s⟩
  | illegal w e hsome hdec => exact ⟨rfl, clk_le_accept s⟩
  | event e hsome hcmd =>
    have he : e ≠ .hardReset := fun h => hreset (h ▸ hsome)
    obtain ⟨ht0, hclk, -⟩ := perform_keeps_time_and_ill he (accept s)
    exact ⟨ht0, hclk ▸ clk_le_accept s⟩

/-- The 32-bit time of a clock at or after its origin. -/
theorem now_toNat {s : State} (h : s.t0 ≤ s.env.clk) :
    (now s).toNat = (s.env.clk - s.t0) % 2 ^ 32 := by
  rw [now, ← Nat.cast_sub h]
  exact BitVec.toNat_ofNat _ 32

/-- Settles O18: below 2^32 ms the time is the clock's distance from its origin. -/
theorem elapsedTimeIsMonotonic : Obligations.ElapsedTimeIsMonotonic := by
  unfold Obligations.ElapsedTimeIsMonotonic
  intro s t hstep hreset horigin hbound
  obtain ⟨ht0, hclk⟩ := step_time hstep hreset
  rw [now_toNat horigin, now_toNat (by omega)]
  omega

/-! ### Good states -/

/-- A good state, part by part. -/
theorem inv_iff (s : State) :
    s.inv = true ↔ s.cfg.wf = true ∧ Memory.wf s.cfg.numLeds pixUnlisted s.pix = true ∧
      Memory.wf s.cfg.dataCap dataUnlisted s.data = true ∧ s.dataLen.toNat ≤ s.cfg.dataCap ∧
      s.t0 ≤ s.env.clk := by
  simp only [State.inv, Bool.and_eq_true, decide_eq_true_eq, and_assoc]

theorem Change.inv {mayDraw : Prop} {s t : State} (h : Change mayDraw s t) (hs : s.inv = true) :
    t.inv = true := by
  obtain ⟨hcfg, hpix, hdata, hlen, htime⟩ := (inv_iff s).1 hs
  rw [inv_iff]
  cases h
  case setDataLen v hv => exact ⟨hcfg, hpix, hdata, hv, htime⟩
  case dataWrite k v hk => exact ⟨hcfg, hpix, dataWrite_wf k v s hk hdata, hlen, htime⟩
  case segSet i c => exact ⟨hcfg, segSet_pix_wf i c s hpix, hdata, hlen, htime⟩
  all_goals exact ⟨hcfg, hpix, hdata, hlen, htime⟩

theorem Changes.inv {mayDraw : Prop} {s t : State} (h : Changes mayDraw s t) (hs : s.inv = true) :
    t.inv = true := by
  induction h with
  | refl => exact hs
  | tail _ hchange ih => exact hchange.inv ih

/-- The agents may change as long as the clock does not run back. -/
theorem inv_setEnv {s : State} {v : Env} (hs : s.inv = true) (hclk : s.env.clk ≤ v.clk) :
    (s.setEnv v).inv = true := by
  obtain ⟨hcfg, hpix, hdata, hlen, htime⟩ := (inv_iff s).1 hs
  exact (inv_iff _).2 ⟨hcfg, hpix, hdata, hlen, htime.trans hclk⟩

theorem KeepsBackground.inv {s t : State} (h : KeepsBackground s t) (hs : s.inv = true) :
    t.inv = true := by
  rw [inv_iff, h.cfg, h.pix, h.data, h.dataLen, h.t0, h.env, ← inv_iff]
  exact hs

theorem inv_pixWrite {s : State} {k : Nat} (c : Color) (hk : k < s.cfg.numLeds)
    (hs : s.inv = true) : (pixWrite k c s).inv = true := by
  obtain ⟨hcfg, hpix, hdata, hlen, htime⟩ := (inv_iff s).1 hs
  exact (inv_iff _).2 ⟨hcfg, pixWrite_wf k c s hk hpix, hdata, hlen, htime⟩

/-- The windows keep a host write inside its memory (R53, R54). -/
theorem inv_hostWrite (addr : Half) (d : Word) {s : State} (hs : s.inv = true) :
    (hostWrite addr d s).inv = true := by
  obtain ⟨k, hk, h⟩ | ⟨k, -, hk, h⟩ | ⟨-, -, h⟩ := hostWrite_cases addr d s
  · obtain ⟨-, hlt⟩ := (pixWindow_eq_some addr s.cfg k).1 hk
    exact h ▸ inv_pixWrite d hlt hs
  · obtain ⟨-, -, hlt⟩ := (dataWindow_eq_some addr s.cfg k).1 hk
    exact h ▸ (Change.dataWrite (mayDraw := False) k _ hlt).inv hs
  · exact h ▸ (regWrite_keepsBackground addr d s).inv hs

/-- Hardware reset lists nothing and latches the origin at the clock. -/
theorem inv_hardReset {s : State} (hs : s.inv = true) : (hardReset s).inv = true := by
  obtain ⟨hcfg, -⟩ := (inv_iff s).1 hs
  exact (inv_iff _).2 ⟨hcfg, rfl, rfl, Nat.zero_le _, le_refl _⟩

theorem inv_perform (e : Event) {s : State} (hs : s.inv = true) : (perform e s).inv = true := by
  cases e with
  | wr addr d => exact inv_hostWrite addr d hs
  | rd addr => exact inv_setEnv hs (le_refl _)
  | foreign k c =>
    rw [perform, foreignWrite]
    split
    case isTrue hk => exact inv_pixWrite c hk hs
    case isFalse => exact hs
  | hardReset => exact inv_hardReset hs

/-- Settles O21: taking the event keeps a good state, and so does each thing a step then does. -/
theorem everyStepKeepsTheInvariant : Obligations.EveryStepKeepsTheInvariant := by
  unfold Obligations.EveryStepKeepsTheInvariant
  intro s t hs hstep
  have haccept : (accept s).inv = true :=
    inv_setEnv (s := s) hs (clk_le_accept s)
  cases stepCase_of_step hstep with
  | idle hnone => exact inv_setEnv (s := s) hs (letTimePass_clk s)
  | command w i _ hsome hdec hexec => exact (changes_of_exec hexec).inv haccept
  | illegal w e hsome hdec => exact haccept
  | event e hsome hcmd => exact inv_perform e haccept

/-- The platform's parameters are brought into their bounds (R5, R130). -/
theorem platform_wf : Config.platform.wf = true := by
  have hleds : Config.openNumLeds % 32767 + 1 ≤ 32767 := Nat.mod_lt _ (by decide)
  have hdata : Config.openDataCap % 16385 ≤ 16384 := Nat.le_of_lt_succ (Nat.mod_lt _ (by decide))
  have hpal : (Config.openPal.filter (fun e => e.2.wf)).all (fun e => e.2.wf) = true := by
    simp [List.all_filter]
  have hdefault : (if Config.openPalDefault.wf then Config.openPalDefault
      else ⟨Config.openPalDefault.first, []⟩ : Palette).wf = true := by
    split
    case isTrue h => exact h
    case isFalse => rfl
  simp only [Config.wf, Config.platform, hleds, hdata, hpal, hdefault, Nat.le_add_left,
    decide_true, Bool.and_self]

/-- Settles O22: nothing is listed at reset, and the clock stands at its origin. -/
theorem invariantHoldsAtReset : Obligations.InvariantHoldsAtReset := by
  unfold Obligations.InvariantHoldsAtReset
  obtain ⟨hpix, hdata⟩ := reset_memory_wf
  exact (inv_iff _).2 ⟨platform_wf, hpix, hdata, Nat.zero_le _, le_refl _⟩

end Sys2Proof.Machine
end

section
/-! The host port: CMD, STATUS, the REG map and the two windows, and the model's own events
(spec/20_memory.md sections 1 and 2, spec/70_reset_and_hazards.md section 1). -/

namespace Sys2Proof.Machine

open Sys2Proof.Claims

/-- Settles O5: a write to CMD runs the word, and a legal word runs its command. -/
theorem stepRunsTheDecodedCommand : Obligations.StepRunsTheDecodedCommand := by
  unfold Obligations.StepRunsTheDecodedCommand
  intro s w rest i hwr hdec
  rw [step_of_host_cmd hwr, runWord, hdec]

/-! ### Addresses below the windows -/

section RegMap

variable {addr : Half}

/-- Below `0x4000` no window answers (R53, R54). -/
theorem windows_of_lt (h : addr.toNat < 0x4000) (c : Config) :
    pixWindow addr c = none ∧ dataWindow addr c = none := by
  constructor
  · refine Option.eq_none_iff_forall_ne_some.2 fun k hk => ?_
    obtain ⟨haddr, -⟩ := (pixWindow_eq_some addr c k).1 hk
    omega
  · refine Option.eq_none_iff_forall_ne_some.2 fun k hk => ?_
    obtain ⟨haddr, -⟩ := (dataWindow_eq_some addr c k).1 hk
    omega

theorem hostWrite_of_lt (h : addr.toNat < 0x4000) (d : Word) (s : State) :
    hostWrite addr d s = regWrite addr d s := by
  obtain ⟨hpix, hdata⟩ := windows_of_lt h s.cfg
  rw [hostWrite, hpix, hdata]

theorem readWord_of_lt (h : addr.toNat < 0x4000) (s : State) :
    readWord addr s = regRead addr s := by
  obtain ⟨hpix, hdata⟩ := windows_of_lt h s.cfg
  rw [readWord, hpix, hdata]

/-- A write to a register address other than CMD. -/
theorem step_of_host_wr_reg {s : State} {d : Word} {rest : List Event}
    (h : s.env.host = .wr addr d :: rest) (hlt : addr.toNat < 0x4000) (hcmd : addr ≠ cmdAddr) :
    step s = .next (regWrite addr d (afterEvent s rest)) := by
  rw [step_of_host_wr h hcmd, hostWrite_of_lt hlt]

/-- A read of a register address. -/
theorem step_of_host_rd_reg {s : State} {rest : List Event} (h : s.env.host = .rd addr :: rest)
    (hlt : addr.toNat < 0x4000) :
    step s = .next (s.setEnv (envAfterRead s rest (regRead addr s))) := by
  rw [step_of_host_rd h, readWord_of_lt hlt]

end RegMap

/-! ### STATUS, R, DATA_LEN and CMD (R20, R22, R32, R52) -/

/-- A write to STATUS clears `ILL` or leaves it. -/
theorem statusWrite_eq (d : Word) (s : State) :
    statusWrite d s = s.setIll (if d.getLsbD 0 then false else s.ill) := by
  rw [statusWrite]
  cases d.getLsbD 0
  · rw [Bool.not_false, Bool.and_true]
    rfl
  · rw [Bool.not_true, Bool.and_false]
    rfl

/-- Settles O7: STATUS is the second row of the REG map. -/
theorem statusReadsAndClearsIll : Obligations.StatusReadsAndClearsIll := by
  unfold Obligations.StatusReadsAndClearsIll
  refine fun s d rest => ⟨fun hwr => ?write,
    fun hrd => ⟨_, step_of_host_rd_reg hrd (by decide), rfl, rfl⟩⟩
  case write =>
    rw [step_of_host_wr_reg hwr (by decide) (by decide)]
    exact congrArg Host.Outcome.next (statusWrite_eq d (afterEvent s rest))

/-- A byte count or a parameter reads as its value, zero-extended. -/
theorem setWidth_eq_ofNat {n : Nat} (x : BitVec n) : x.setWidth 32 = BitVec.ofNat 32 x.toNat :=
  (BitVec.ofNat_toNat 32 x).symm

/-- Settles O11: the REG map has no write row for R and DATA_LEN and no read row for CMD. -/
theorem readOnlyRegistersIgnoreWrites : Obligations.ReadOnlyRegistersIgnoreWrites := by
  unfold Obligations.ReadOnlyRegistersIgnoreWrites
  refine fun s addr d rest => ⟨?write, fun hrd => ⟨_, step_of_host_rd hrd, rfl, ?r, ?dataLen, ?cmd⟩⟩
  case write =>
    rintro (rfl | rfl) hwr <;> exact step_of_host_wr_reg hwr (by decide) (by decide)
  case r =>
    rintro rfl
    rw [readWord_of_lt (by decide)]
    rfl
  case dataLen =>
    rintro rfl
    rw [readWord_of_lt (by decide), ← setWidth_eq_ofNat]
    rfl
  case cmd =>
    rintro rfl
    rw [readWord_of_lt (by decide)]
    rfl

/-! ### The readable and writable rows (R52) -/

section HostRegisters

variable {reg : HostRegister} (hreg : reg ∈ hostRegisters)
include hreg

/-- The write row of a register is the model's. -/
theorem regWrite_hostRegister (d : Word) (s : State) :
    regWrite (BitVec.ofNat 16 reg.addr) d s = reg.written d s := by
  fin_cases hreg <;> rfl

/-- The read row of a register is the model's; nine of the rows are full words. -/
theorem toNat_regRead_hostRegister (s : State) :
    (regRead (BitVec.ofNat 16 reg.addr) s).toNat = reg.value s := by
  fin_cases hreg <;> simp [regRead] <;> omega

/-- A register fits in the word the host reads. -/
theorem toNat_ofNat_value (s : State) : (BitVec.ofNat 32 (reg.value s)).toNat = reg.value s := by
  rw [← toNat_regRead_hostRegister hreg, BitVec.ofNat_toNat, BitVec.setWidth_eq]

theorem value_written (d : Word) (s : State) :
    reg.value (reg.written d s) = d.toNat % 2 ^ reg.width := by
  have hword : d.toNat % 4294967296 = d.toNat := Nat.mod_eq_of_lt d.isLt
  fin_cases hreg <;> simp [hword]

/-- Neither the parameters nor a memory nor the agents are in the REG map. -/
theorem written_background (d : Word) (s : State) :
    (reg.written d s).cfg = s.cfg ∧ (reg.written d s).env = s.env ∧
      (∀ k, pixRead k (reg.written d s) = pixRead k s) ∧
      ∀ k, dataRead k (reg.written d s) = dataRead k s := by
  fin_cases hreg <;> exact ⟨rfl, rfl, fun _ => rfl, fun _ => rfl⟩

/-- No two rows share a field: writing one leaves what every other address reads. -/
theorem regRead_written_of_ne (d : Word) (s : State) {a : Half} (ha : a.toNat ≠ reg.addr) :
    regRead a (reg.written d s) = regRead a s := by
  fin_cases hreg
  all_goals
    unfold regRead
    split <;> simp_all only [ne_eq, not_true_eq_false, statusWord]

theorem readWord_written_of_ne (d : Word) (s : State) {a : Half} (ha : a.toNat ≠ reg.addr) :
    readWord a (reg.written d s) = readWord a s := by
  obtain ⟨hcfg, -, hpix, hdata⟩ := written_background hreg d s
  simp only [readWord, hcfg, hpix, hdata, regRead_written_of_ne hreg d s ha]

/-- A register's address is in the REG map, and it is not that of CMD. -/
theorem hostRegister_addr :
    (BitVec.ofNat 16 reg.addr).toNat < 0x4000 ∧ BitVec.ofNat 16 reg.addr ≠ cmdAddr := by
  fin_cases hreg <;> decide

theorem step_of_host_wr_hostRegister {s : State} {d : Word} {rest : List Event}
    (h : s.env.host = .wr (BitVec.ofNat 16 reg.addr) d :: rest) :
    step s = .next (reg.written d (afterEvent s rest)) := by
  obtain ⟨hlt, hcmd⟩ := hostRegister_addr hreg
  rw [step_of_host_wr_reg h hlt hcmd, regWrite_hostRegister hreg]

theorem step_of_host_rd_hostRegister {s : State} {rest : List Event}
    (h : s.env.host = .rd (BitVec.ofNat 16 reg.addr) :: rest) :
    step s = .next (s.setEnv (envAfterRead s rest (BitVec.ofNat 32 (reg.value s)))) := by
  obtain ⟨hlt, -⟩ := hostRegister_addr hreg
  rw [step_of_host_rd_reg h hlt, ← toNat_regRead_hostRegister hreg, BitVec.ofNat_toNat,
    BitVec.setWidth_eq]

end HostRegisters

/-- Settles O9: each row's write and read are the model's, and no two rows share a field. -/
theorem hostRegisterReadsBackCutToItsWidth : Obligations.HostRegisterReadsBackCutToItsWidth := by
  unfold Obligations.HostRegisterReadsBackCutToItsWidth
  refine fun reg hreg s d rest => ⟨step_of_host_wr_hostRegister hreg,
    fun hrd => ⟨_, step_of_host_rd_hostRegister hreg hrd, rfl, rfl⟩, fun hwr => ?readBack⟩
  have hwrite := step_of_host_wr_hostRegister hreg hwr
  obtain ⟨-, henv, -, -⟩ := written_background hreg d (afterEvent s (.rd _ :: rest))
  have hread := step_of_host_rd_hostRegister hreg (congrArg Env.host henv)
  refine ⟨_, _, hwrite, hread, rfl, ?value, fun _ => readWord_written_of_ne hreg d _⟩
  case value => exact (toNat_ofNat_value hreg _).trans (value_written hreg d _)

/-! ### The windows (R53, R54) -/

/-- `NUM_LEDS` is at most 32767, so the PIX window does not run past the last address (R5). -/
theorem pixWindow_of_lt {c : Config} {k : Nat} (hwf : c.wf = true) (hk : k < c.numLeds) :
    pixWindow (BitVec.ofNat 16 (0x8000 + k)) c = some k := by
  have hleds : c.numLeds ≤ 32767 := by
    simp only [Config.wf, Bool.and_eq_true, decide_eq_true_eq] at hwf
    omega
  refine (pixWindow_eq_some _ c k).2 ⟨?_, hk⟩
  rw [BitVec.toNat_ofNat]
  omega

/-- `DATA_CAP` is at most 16384, so the DATA window ends where the PIX window begins (R5). -/
theorem dataWindow_of_lt {c : Config} {k : Nat} (hwf : c.wf = true) (hk : k < c.dataCap) :
    pixWindow (BitVec.ofNat 16 (0x4000 + k)) c = none ∧
      dataWindow (BitVec.ofNat 16 (0x4000 + k)) c = some k := by
  have hcap : c.dataCap ≤ 16384 := by
    simp only [Config.wf, Bool.and_eq_true, decide_eq_true_eq] at hwf
    omega
  have haddr : (BitVec.ofNat 16 (0x4000 + k)).toNat = 0x4000 + k := by
    rw [BitVec.toNat_ofNat]
    omega
  refine ⟨Option.eq_none_iff_forall_ne_some.2 fun j hj => ?_,
    (dataWindow_eq_some _ c k).2 ⟨haddr, by omega, hk⟩⟩
  obtain ⟨hpix, -⟩ := (pixWindow_eq_some _ c j).1 hj
  omega

/-- An address that a window answers is not that of CMD. -/
theorem ne_cmdAddr_of_le {addr : Half} (h : 0x4000 ≤ addr.toNat) : addr ≠ cmdAddr := by
  rintro rfl
  exact absurd h (by decide)

/-- Settles O12: the window names the element, and `pixRead_pixWrite` says what the write does. -/
theorem pixWindowReadsAndWritesOneElement : Obligations.PixWindowReadsAndWritesOneElement := by
  unfold Obligations.PixWindowReadsAndWritesOneElement
  intro s k d rest hwf hk
  have hwindow := pixWindow_of_lt hwf hk
  refine ⟨fun hwr => ⟨pixWrite k d (afterEvent s rest), ?write, rfl,
      fun j => pixRead_pixWrite k j d (afterEvent s rest)⟩,
    fun hrd => ⟨_, step_of_host_rd hrd, rfl, ?read⟩⟩
  case write =>
    obtain ⟨haddr, -⟩ := (pixWindow_eq_some _ _ k).1 hwindow
    have hcfg : (afterEvent s rest).cfg = s.cfg := rfl
    rw [step_of_host_wr hwr (ne_cmdAddr_of_le (by omega)), hostWrite, hcfg, hwindow]
  case read =>
    show readWord _ s = _
    rw [readWord, hwindow]

/-- Settles O13: the canonical form is what makes a byte that is written as 0 read 0. -/
theorem dataWindowReadsAndWritesOneByte : Obligations.DataWindowReadsAndWritesOneByte := by
  unfold Obligations.DataWindowReadsAndWritesOneByte
  intro s k d rest hinv hk
  obtain ⟨hwf, -, hdata, -, -⟩ := (inv_iff s).1 hinv
  obtain ⟨hpix, hwindow⟩ := dataWindow_of_lt hwf hk
  have hrising : Memory.rising s.data = true := ((Memory.wf_iff _ _ _).1 hdata).1
  refine ⟨fun hwr => ⟨dataWrite k (d.setWidth 8) (afterEvent s rest), ?write, rfl, fun j => ?byte⟩,
    fun hrd => ⟨_, step_of_host_rd hrd, rfl, ?read⟩⟩
  case write =>
    obtain ⟨haddr, -⟩ := (dataWindow_eq_some _ _ k).1 hwindow
    have hcfg : (afterEvent s rest).cfg = s.cfg := rfl
    rw [step_of_host_wr hwr (ne_cmdAddr_of_le (by omega)), hostWrite, hcfg, hpix, hwindow]
  case byte =>
    rw [dataRead_dataWrite k j _ (afterEvent s rest) hrising, apply_ite BitVec.toNat,
      BitVec.toNat_setWidth]
    rfl
  case read =>
    show (readWord _ s).toNat = _
    rw [readWord, hpix, hwindow]
    exact BitVec.toNat_setWidth_of_le (by decide)

/-! ### The model's own events (assumptions 11 to 13) -/

/-- Settles O14: a foreign write is a write to PIX, and an idle step lets time pass. -/
theorem foreignWriteAndIdleStep : Obligations.ForeignWriteAndIdleStep := by
  unfold Obligations.ForeignWriteAndIdleStep
  refine fun s k c rest => ⟨fun hforeign hk => ⟨pixWrite k c (afterEvent s rest), ?write, rfl,
    fun j => pixRead_pixWrite k j c (afterEvent s rest)⟩, fun hnone => ?idle⟩
  case write =>
    rw [step_of_host_cons hforeign rfl]
    exact congrArg Host.Outcome.next (if_pos hk)
  case idle =>
    simp only [step, pending, hnone, List.head?_nil, letTimePass, afterEvent]

/-- Settles O16: hardware reset latches the origin at the clock and lists no byte of DATA. -/
theorem hardwareResetEventRestartsTheEngine : Obligations.HardwareResetEventRestartsTheEngine := by
  unfold Obligations.HardwareResetEventRestartsTheEngine
  intro s rest hreset
  exact ⟨hardReset (afterEvent s rest), step_of_host_cons hreset rfl, now_of_clk_eq_t0 rfl,
    dataRead_of_data_eq_nil rfl, rfl, rfl, rfl⟩

end Sys2Proof.Machine
end

section
/-! The commands that write R from their operands, and the pixel accesses (spec/40_color_mix.md,
spec/41_hue_hsv.md, spec/42_wave.md, spec/43_palette.md, spec/44_segment.md). -/

namespace Sys2Proof.Machine

/-! ### The colour mixer (R101, R103, R105) -/

theorem exec_blend (amount : Byte) (s : State) :
    exec (.blend amount) s = .next { s with r := blend s.a s.b amount.toNat } := rfl

theorem exec_add (s : State) : exec .add s = .next { s with r := add s.a s.b false } := rfl

theorem exec_addP (s : State) : exec .addP s = .next { s with r := add s.a s.b true } := rfl

theorem exec_fade (amount : Byte) (s : State) :
    exec (.fade amount) s = .next { s with r := fadeToBlack s.a amount.toNat false } := rfl

theorem exec_fadeV (amount : Byte) (s : State) :
    exec (.fadeV amount) s = .next { s with r := fadeToBlack s.a amount.toNat true } := rfl

/-- Settles O30: the arms of the colour mixer. -/
theorem colourMixerCommandsWriteR : Obligations.ColourMixerCommandsWriteR := by
  unfold Obligations.ColourMixerCommandsWriteR
  exact fun s amount => ⟨exec_blend amount s, exec_add s, exec_addP s, exec_fade amount s,
    exec_fadeV amount s⟩

/-! ### The hue unit (R111, R113, R115, R116) -/

/-- The fields of an HSV word, as bits. -/
theorem hsvFields_eq (x : Word) :
    (x.extractLsb' 16 16).toNat = hueOf x ∧ (x.extractLsb' 8 8).toNat = satOf x ∧
      (x.extractLsb' 0 8).toNat = valOf x := by
  have h := x.isLt
  refine ⟨?_, ?_, ?_⟩ <;>
    simp only [BitVec.extractLsb'_toNat, Nat.shiftRight_eq_div_pow, pow_zero, Nat.div_one, hueOf,
      satOf, valOf]
  omega

/-- The hue, saturation and value of a colour fit in the fields of an HSV word. -/
theorem rgbToHsv_fits (c : Color) :
    (rgbToHsv c).1 < 65536 ∧ (rgbToHsv c).2.1 < 256 ∧ (rgbToHsv c).2.2 < 256 := by
  rw [rgbToHsv_eq]
  exact ⟨maskHue_lt _, Nat.lt_succ_of_le (saturation_le c), Nat.lt_succ_of_le (maxChan_le c)⟩

/-- The word that RGB2HSV writes. -/
def hsvWordOf (c : Color) : Word := hsvWord (rgbToHsv c).1 (rgbToHsv c).2.1 (rgbToHsv c).2.2

theorem hsvWordOf_fields (c : Color) :
    ((hsvWordOf c).extractLsb' 16 16).toNat = (rgbToHsv c).1 ∧
      ((hsvWordOf c).extractLsb' 8 8).toNat = (rgbToHsv c).2.1 ∧
      ((hsvWordOf c).extractLsb' 0 8).toNat = (rgbToHsv c).2.2 := by
  obtain ⟨hhue, hsat, hval⟩ := rgbToHsv_fits c
  obtain ⟨fh, fs, fv⟩ := hsvFields_eq (hsvWordOf c)
  obtain ⟨wh, ws, wv⟩ := hsvWord_fields (rgbToHsv c).1 (rgbToHsv c).2.1 (rgbToHsv c).2.2
  exact ⟨fh.trans (wh.trans (Nat.mod_eq_of_lt hhue)), fs.trans (ws.trans (Nat.mod_eq_of_lt hsat)),
    fv.trans (wv.trans (Nat.mod_eq_of_lt hval))⟩

theorem exec_hsv2rgb (s : State) :
    exec .hsv2rgb s = .next (s.setR (hsvToRgb (hueOf s.a) (satOf s.a) (valOf s.a))) := rfl

/-- Settles O34: RGB2HSV's three numbers fit in their fields, so the word gives them back. -/
theorem hueCommandsWriteR : Obligations.HueCommandsWriteR := by
  unfold Obligations.HueCommandsWriteR
  intro s pos
  obtain ⟨hh, hs, hv⟩ := hsvFields_eq s.a
  exact ⟨rfl, by rw [hh, hs, hv, exec_hsv2rgb], hsvWordOf s.a, rfl, hsvWordOf_fields s.a⟩

/-! ### The sine, quadrant by quadrant (R121, R127) -/

/-- Neighbouring entries of the table differ by at most the first step, and none is above the
top. -/
theorem sinTable_step {i : Nat} (hi : i < 64) :
    sinTable (i + 1) ≤ sinTable i + 804 ∧ sinTable (i + 1) ≤ 32767 := by
  have htable : ∀ j < 64, sinTable (j + 1) ≤ sinTable j + 804 ∧ sinTable (j + 1) ≤ 32767 := by
    decide
  exact htable i hi

section RisingQuarter

variable {o : Nat}

/-- The next value is on the same line of the table, also where that line ends. -/
theorem quarterSine_succ (ho : o < 16384) :
    quarterSine (o + 1) =
      sinTable (o / 256) +
        (sinTable (o / 256 + 1) - sinTable (o / 256)) * (o % 256 + 1) / 256 := by
  have hrise := sinTable_le_succ (i := o / 256) (by omega)
  by_cases hend : o % 256 = 255
  · have hidx : (o + 1) / 256 = o / 256 + 1 := by omega
    have hfrac : (o + 1) % 256 = 0 := by omega
    rw [hend, Nat.mul_div_cancel _ (by decide), Nat.add_sub_cancel' hrise]
    simp only [quarterSine, hidx, hfrac, Nat.mul_zero, Nat.zero_div, Nat.add_zero]
    split
    case isTrue htop => rw [htop]
    case isFalse => rfl
  · have hidx : (o + 1) / 256 = o / 256 := by omega
    have hfrac : (o + 1) % 256 = o % 256 + 1 := by omega
    rw [quarterSine_of_lt (by omega), hidx, hfrac]

/-- A rising line of slope at most 1024 / 256 climbs by at most 4. -/
theorem quarterSine_climbs (ho : o < 16384) :
    quarterSine o ≤ quarterSine (o + 1) ∧ quarterSine (o + 1) ≤ quarterSine o + 4 := by
  obtain ⟨hslope, -⟩ := sinTable_step (i := o / 256) (by omega)
  rw [quarterSine_succ ho, quarterSine_of_lt ho, Nat.mul_succ]
  omega

theorem quarterSine_le (ho : o ≤ 16384) : quarterSine o ≤ 32767 := by
  rcases Nat.lt_or_eq_of_le ho with hlt | rfl
  · obtain ⟨-, htop⟩ := sinTable_step (i := o / 256) (by omega)
    have hrise := sinTable_le_succ (i := o / 256) (by omega)
    have hpart : (sinTable (o / 256 + 1) - sinTable (o / 256)) * (o % 256) / 256 ≤
        sinTable (o / 256 + 1) - sinTable (o / 256) := by
      refine Nat.div_le_of_le_mul (Nat.mul_comm 256 _ ▸ Nat.mul_le_mul_left _ ?_)
      omega
    rw [quarterSine_of_lt hlt]
    omega
  · exact quarterSine_top.le

end RisingQuarter

section Quadrants

variable {o : Nat}

/-- The formulas of the first two quadrants hold at the end of each as well. -/
theorem sin16_rising (ho : o ≤ 16384) : sin16 o = quarterSine o := by
  rcases Nat.lt_or_eq_of_le ho with hlt | rfl
  · exact sin16_first_quadrant hlt
  · exact sin16_second_quadrant (o := 0) (by decide)

theorem sin16_falling (ho : o ≤ 16384) : sin16 (16384 + o) = quarterSine (16384 - o) := by
  rcases Nat.lt_or_eq_of_le ho with hlt | rfl
  · exact sin16_second_quadrant hlt
  · exact sin16_half_turn_add (o := 0) (by decide)

theorem sin16_rising_climbs (ho : o < 16384) :
    sin16 o ≤ sin16 (o + 1) ∧ sin16 (o + 1) ≤ sin16 o + 4 := by
  obtain ⟨hup, hstep⟩ := quarterSine_climbs ho
  rw [sin16_rising (Nat.le_of_lt ho), sin16_rising (o := o + 1) ho]
  omega

theorem sin16_falling_drops (ho : o < 16384) :
    sin16 (16384 + o + 1) ≤ sin16 (16384 + o) ∧ sin16 (16384 + o) ≤ sin16 (16384 + o + 1) + 4 := by
  obtain ⟨hup, hstep⟩ := quarterSine_climbs (o := 16384 - (o + 1)) (by omega)
  have hnext : 16384 - (o + 1) + 1 = 16384 - o := by omega
  rw [hnext] at hup hstep
  rw [sin16_falling (Nat.le_of_lt ho), Nat.add_assoc, sin16_falling (o := o + 1) ho]
  omega

/-- The first half turn is its own mirror image. -/
theorem sin16_mirror (ho : o ≤ 32768) : sin16 (32768 - o) = sin16 o := by
  rcases Nat.lt_or_ge o 16384 with hfirst | hsecond
  · exact sin16_half_turn_sub hfirst
  · rcases Nat.eq_or_lt_of_le hsecond with rfl | hlt
    · rfl
    · have h := sin16_half_turn_sub (o := 32768 - o) (by omega)
      rwa [Nat.sub_sub_self ho, eq_comm] at h

theorem sin16_bounds (ho : o < 32768) : 0 ≤ sin16 o ∧ sin16 o ≤ 32767 := by
  rcases Nat.le_total o 16384 with hfirst | hsecond
  · have hle := quarterSine_le hfirst
    rw [sin16_rising hfirst]
    omega
  · have hle := quarterSine_le (o := 16384 - (o - 16384)) (by omega)
    rw [← Nat.add_sub_cancel' hsecond, sin16_falling (by omega)]
    omega

end Quadrants

/-- Every angle is one of the first half turn, or half a turn more. -/
theorem half_turn_cases {x : Nat} (hx : x < 65536) :
    x < 32768 ∨ ∃ o < 32768, x = 32768 + o := by
  rcases Nat.lt_or_ge x 32768 with h | h
  · exact .inl h
  · exact .inr ⟨x - 32768, by omega, by omega⟩

theorem sin16_range {x : Nat} (hx : x < 65536) : -32767 ≤ sin16 x ∧ sin16 x ≤ 32767 := by
  obtain h | ⟨o, ho, rfl⟩ := half_turn_cases hx
  · obtain ⟨hlow, hhigh⟩ := sin16_bounds h
    omega
  · obtain ⟨hlow, hhigh⟩ := sin16_bounds ho
    rw [sin16_half_turn_add ho]
    omega

theorem sin16_odd {x : Nat} (hx : x < 65536) : sin16 ((65536 - x) % 65536) = -sin16 x := by
  obtain h | ⟨o, ho, rfl⟩ := half_turn_cases hx
  · rcases Nat.eq_zero_or_pos x with rfl | hpos
    · rfl
    · have hmod : (65536 - x) % 65536 = 32768 + (32768 - x) := by omega
      rw [hmod, sin16_half_turn_add (by omega), sin16_mirror (Nat.le_of_lt h)]
  · have hmod : (65536 - (32768 + o)) % 65536 = 32768 - o := by omega
    rw [hmod, sin16_mirror (Nat.le_of_lt ho), sin16_half_turn_add ho, neg_neg]

/-- Settles O36: on the second half turn a quadrant is the negation of one of the first, which turns
its slope round. -/
theorem sin16IsMonotonicPerQuadrant : Obligations.Sin16IsMonotonicPerQuadrant := by
  unfold Obligations.Sin16IsMonotonicPerQuadrant
  intro x hx
  obtain ⟨hlow, hhigh⟩ := sin16_range hx
  refine ⟨hlow, hhigh, sin16_odd hx, fun hup => ?rising, fun h1 h2 => ?falling⟩
  case rising =>
    obtain hfirst | ⟨hfourth, hlast⟩ := hup
    · exact sin16_rising_climbs hfirst
    · obtain ⟨o, rfl⟩ := Nat.exists_eq_add_of_le hfourth
      obtain ⟨hdrop, hstep⟩ := sin16_falling_drops (o := o) (by omega)
      have hx0 : sin16 (49152 + o) = -sin16 (16384 + o) := by
        rw [← sin16_half_turn_add (by omega), ← Nat.add_assoc]
      have hx1 : sin16 (49152 + o + 1) = -sin16 (16384 + o + 1) := by
        rw [← sin16_half_turn_add (by omega), ← Nat.add_assoc, ← Nat.add_assoc]
      omega
  case falling =>
    rcases Nat.lt_or_ge x 32768 with hsecond | hthird
    · obtain ⟨o, rfl⟩ := Nat.exists_eq_add_of_le h1
      exact sin16_falling_drops (by omega)
    · obtain ⟨o, rfl⟩ := Nat.exists_eq_add_of_le hthird
      obtain ⟨hclimb, hstep⟩ := sin16_rising_climbs (o := o) (by omega)
      rw [Nat.add_assoc, sin16_half_turn_add (by omega), sin16_half_turn_add (by omega)]
      omega

/-! ### The wave unit's commands (R122 to R126) -/

theorem sin8_eq {x : Nat} (hx : x < 256) :
    (sin8 x : Int) = (sin16 (x * 256) + 32768) >>> 8 ∧ sin8 x ≤ 255 := by
  obtain ⟨hlow, hhigh⟩ := sin16_range (x := x * 256) (by omega)
  rw [int_shiftRight_eight, sin8]
  omega

theorem natWord_toNat {y : Nat} (h : y < 2 ^ 32) : (natWord y).toNat = y := by
  rw [natWord, BitVec.toNat_ofNat, Nat.mod_eq_of_lt h]

theorem triangleWave16_le {x : Nat} (hx : x < 65536) : triangleWave16 x ≤ 65535 := by
  unfold triangleWave16
  split <;> omega

/-- Settles O38: each result is in the range its register word holds exactly. -/
theorem waveCommandsWriteR : Obligations.WaveCommandsWriteR := by
  unfold Obligations.WaveCommandsWriteR
  intro s x8 x16
  obtain ⟨hsin8, h255⟩ := sin8_eq x8.isLt
  obtain ⟨hlow, hhigh⟩ := sin16_range x16.isLt
  have htri := triangleWave16_le x16.isLt
  have h8 : (natWord (sin8 x8.toNat)).toNat = sin8 x8.toNat := natWord_toNat (by omega)
  have ht : (natWord (triangleWave16 x16.toNat)).toNat = triangleWave16 x16.toNat :=
    natWord_toNat (by omega)
  have h16 : (toWord (sin16 x16.toNat)).toInt = sin16 x16.toNat := by
    rw [toWord, BitVec.toInt_ofInt]
    exact Int.bmod_eq_of_le (by omega) (by omega)
  rw [← h8] at hsin8 h255
  exact ⟨_, _, _, rfl, hsin8, h255, rfl, h16, rfl, ht, ht.trans_le htri⟩

/-! ### The palette commands (R134, R151, R152) -/

/-- A masked number is a byte, so its floor remainder is not negative. -/
theorem mask8_cast (y : Int) : (mask8 y : Int) = y.fmod 256 := by
  rw [Int.fmod_eq_emod_of_nonneg y (by decide), mask8]
  omega

/-- The position of SEGPAL.I (R151). -/
theorem segPalPos_cast (index : Int) (len : Nat) :
    (segPalPos index true len : Int) =
      if 1 < len then (Int.fdiv (index * 255) ((len : Int) - 1)).fmod 256
      else index.fmod 256 := by
  unfold segPalPos
  simp only [true_and]
  split
  case isTrue hlen => rw [mask8_cast, Int.fdiv_eq_ediv_of_nonneg _ (by omega)]
  case isFalse => exact mask8_cast index

/-- Settles O41: the three arms, with the two positions of `segPal`. -/
theorem paletteCommandsWriteR : Obligations.PaletteCommandsWriteR := by
  unfold Obligations.PaletteCommandsWriteR
  intro s pid pos bri i
  exact ⟨rfl, segPalPos i.toInt false s.len, segPalPos i.toInt true s.len, rfl, mask8_cast _, rfl,
    segPalPos_cast _ _⟩

/-! ### Pixel accesses (R140 to R143) -/

theorem exec_setpix (i : Half) (s : State) :
    exec (.setpix i) s = .next (segSet i.toInt s.a s) := rfl

theorem exec_getpix (i : Half) (s : State) :
    exec (.getpix i) s = .next (s.setR (segGet i.toInt s)) := rfl

section Accesses

variable {i : Int} {s : State}

theorem segGet_of_segIndex {k : Nat} (h : segIndex i s = some k) : segGet i s = pixRead k s := by
  rw [segGet, h]

theorem segGet_of_segIndex_none (h : segIndex i s = none) : segGet i s = 0 := by rw [segGet, h]

/-- The accesses that are dropped, in the words of the rule (R60). -/
theorem segIndex_eq_none (h : ¬(0 ≤ i ∧ i < s.len ∧ s.segStart.toNat + i < s.cfg.numLeds)) :
    segIndex i s = none := by
  refine Option.eq_none_iff_forall_ne_some.2 fun k hk => h ?_
  obtain ⟨h0, hlen, hleds, -⟩ := (segIndex_eq_some i s k).1 hk
  omega

end Accesses

/-- Settles O42: an access goes to the one element that `segIndex` names, or nowhere. -/
theorem pixelCommandsAreBoundsChecked : Obligations.PixelCommandsAreBoundsChecked := by
  unfold Obligations.PixelCommandsAreBoundsChecked
  refine fun s i => ⟨segSet i.toInt s.a s, exec_setpix i s, segSet_samePixApart _ _ s,
    fun h0 hlen hleds => ?accepted, fun hout => ?dropped⟩
  case accepted =>
    have hix : segIndex i.toInt s = some (s.segStart.toNat + i.toInt.toNat) :=
      (segIndex_eq_some _ s _).2 ⟨h0, hlen, by omega, rfl⟩
    have hwrite (k : Nat) : pixRead k (segSet i.toInt s.a s) =
        if k = s.segStart.toNat + i.toInt.toNat then s.a else pixRead k s := by
      rw [pixRead_segSet, hix]
      simp only [Option.some.injEq, eq_comm]
    refine ⟨_, by omega, hwrite, ?before, ?after⟩
    case before => rw [exec_getpix, segGet_of_segIndex hix]
    case after =>
      rw [exec_getpix, segGet_of_segIndex (s := segSet i.toInt s.a s) hix, hwrite, if_pos rfl]
  case dropped =>
    have hix := segIndex_eq_none hout
    refine ⟨?_, by rw [exec_getpix, segGet_of_segIndex_none hix]⟩
    obtain ⟨k, hk, -⟩ | ⟨-, hsame⟩ := segSet_cases i.toInt s.a s
    · exact absurd (hk.symm.trans hix) (by simp)
    · exact hsame

/-! ### NOW and GETCOLOR (R150, R153, R207) -/

theorem now_cast (s : State) :
    ((now s).toNat : Int) = ((s.env.clk : Int) - s.t0) % 2 ^ 32 := by
  have h : (BitVec.ofInt 32 ((s.env.clk : Int) - s.t0)).toNat =
      (((s.env.clk : Int) - s.t0) % 2 ^ 32).toNat := BitVec.toNat_ofInt _
  rw [now, h]
  exact Int.toNat_of_nonneg (Int.emod_nonneg _ (by decide))

/-- Settles O45: the four cases of the signed index are those of `getColor`. -/
theorem nowAndGetcolorWriteR : Obligations.NowAndGetcolorWriteR := by
  unfold Obligations.NowAndGetcolorWriteR
  refine fun s i => ⟨now s, getColor i.toInt s, rfl, now_cast s, rfl, fun h => ?zero, fun h => ?one,
    fun h => ?two, fun h => ?other⟩
  case zero => rw [getColor, if_pos h]
  case one => rw [getColor, if_neg (by omega), if_pos h]
  case two => rw [getColor, if_neg (by omega), if_neg (by omega), if_pos h]
  case other => rw [getColor, if_neg (by omega), if_neg (by omega), if_neg (by omega)]

/-! ### The rows of an EFFECT id (R80) -/

theorem effectNumber_effectRow (id : Byte) :
    Claims.effectNumber (effectRow id) = some id.toNat := by
  unfold effectRow
  split
  case h_17 => rfl
  all_goals
    rename_i hid
    rw [hid]
    rfl

/-- Settles O46: both commands carry the same effect number. -/
theorem effectIdsRunTheirRow : Obligations.EffectIdsRunTheirRow := by
  unfold Obligations.EffectIdsRunTheirRow
  intro id s
  rw [exec_of_effectNumber (effectNumber_effectRow id), exec_of_effectNumber (i := .effect id) rfl]

end Sys2Proof.Machine
end

section
/-! The effects that draw: Random Color, Dynamic and Sparkle (spec/46_effects_b.md R183, R184, R186;
assumption 3). -/

namespace Sys2Proof.Machine

open Sys2Proof.Claims

/-! ### The draws (R17) -/

section Draws

variable (s : State) (m n : Nat)

@[simp] theorem drawn_drawn : drawn (drawn s m) n = drawn s (m + n) := by
  simp only [drawn, State.setEnv_env, State.setEnv_setEnv, List.drop_drop, Nat.add_assoc]

@[simp] theorem rawDraw_drawn : rawDraw (drawn s m) n = rawDraw s (m + n) := by
  simp only [rawDraw, drawn, State.setEnv_env, List.getElem?_drop, Nat.add_assoc]

theorem afterDraw_eq_drawn : afterDraw s = drawn s 1 := by
  rw [afterDraw, drawn, List.drop_one]

theorem rand_eq_rawDraw : rand n s = rawDraw s 0 % n := by
  rw [rand, nextDraw, rawDraw]
  cases s.env.draws <;> rfl

end Draws

/-! ### Random Color (R183) -/

/-- Random Color's hues: at a boundary the old target becomes the start and a new one is drawn. -/
def randomColorUpdate (it : Nat) (s : State) : State :=
  if it ≠ s.step.toNat then
    { drawn s 1 with
      step := BitVec.ofNat 32 it, aux1 := s.aux0, aux0 := BitVec.ofNat 32 (rawDraw s 0 % 256) }
  else s

section RandomColor

variable {it : Nat} {s : State}

theorem randomColorUpdate_eq :
    (if boundary it s then
      (((afterDraw s).setAux1 s.aux0).setAux0 (natWord (rand wheelPositions s))).setStep
        (natWord it)
    else s) = randomColorUpdate it s := by
  simp only [boundary_iff, randomColorUpdate, afterDraw_eq_drawn, rand_eq_rawDraw,
    wheelPositions_eq]
  rfl

/-- The update leaves the segment, PIX and the palette where they were. -/
theorem paints_randomColorUpdate_iff (u : State) (col : Nat → Color) :
    paints (randomColorUpdate it s) u col ↔ paints s u col := by
  unfold randomColorUpdate
  split <;> rfl

end RandomColor

theorem randomColorWeight_eq (cyc intensity rem : Nat) :
    randomColorWeight cyc intensity rem =
      if (cyc * intensity) >>> 8 = 0 then 255
      else min 255 (rem * 255 / ((cyc * intensity) >>> 8)) := by
  rw [Nat.shiftRight_eq_div_pow]
  rfl

theorem and_ff_eq_mod (x : Nat) : x &&& 0xFF = x % 2 ^ 8 := Nat.and_two_pow_sub_one_eq_mod x 8

theorem shows_fxRandomColor (t : Nat) (s : State) :
    let cyc := 200 + (255 - s.speed.toNat) * 50
    let fd := (cyc * s.intensity.toNat) >>> 8
    let f := if fd = 0 then 255 else min 255 (t % cyc * 255 / fd)
    let v := randomColorUpdate (t / cyc) s
    (fxRandomColor t s).Shows 24 v (fun _ =>
      blend (hueWheel (v.aux1.toNat &&& 0xFF)) (hueWheel (v.aux0.toNat &&& 0xFF)) f) := by
  intro cyc fd f v
  have hcyc : randomColorCycle s.speed.toNat = cyc := rfl
  simp only [fxRandomColor, hcyc, randomColorUpdate_eq, randomColorWeight_eq, wheelBits_eq,
    ← and_ff_eq_mod]
  exact shows_frame_fill _ v

/-- Settles O55: the frame is a fill of the updated state with the blend of its two hues. -/
theorem randomColorFadesToItsTarget : Obligations.RandomColorFadesToItsTarget := by
  unfold Obligations.RandomColorFadesToItsTarget
  intro s hlen cyc it fd f
  obtain ⟨u, hexec, hframe, hpaints⟩ :=
    exec_of_row_shows (i := .fxRandomColor) rfl hlen (shows_fxRandomColor (now s).toNat s)
  rw [paints_randomColorUpdate_iff] at hpaints
  exact ⟨u, randomColorUpdate it s, hexec, hframe, fun hit => if_neg (not_not.2 hit),
    fun hit => if_pos hit, hpaints⟩

/-! ### Sparkle (R186) -/

/-- Sparkle's pixel: at a boundary a new index is drawn. -/
def sparkleUpdate (it : Nat) (s : State) : State :=
  if it ≠ s.step.toNat then
    { drawn s 1 with
      step := BitVec.ofNat 32 it, aux0 := BitVec.ofNat 32 (rawDraw s 0 % s.len) }
  else s

section Sparkle

variable (it : Nat) (s : State)

theorem sparkleUpdate_eq (m : List (Nat × Color)) :
    (if boundary it s then
      ((afterDraw (s.setPix m)).setAux0 (natWord (rand s.len s))).setStep (natWord it)
    else s.setPix m) = (sparkleUpdate it s).setPix m := by
  simp only [boundary_iff, sparkleUpdate, afterDraw_eq_drawn, rand_eq_rawDraw,
    apply_ite (State.setPix · m)]
  rfl

theorem paints_sparkleUpdate_iff (u : State) (col : Nat → Color) :
    paints (sparkleUpdate it s) u col ↔ paints s u col := by
  unfold sparkleUpdate
  split <;> rfl

/-- The gradient is painted before the update, which leaves PIX alone. -/
theorem shows_paintPalette_sparkleUpdate :
    (frame ((sparkleUpdate it s).setPix (paintPalette s).pix)).Shows 24 (sparkleUpdate it s)
      (fun i => segPal i true 255 s) := by
  have hgrad : paintPalette s = s.setPix (paintPalette s).pix := paint_samePixApart _ s
  have hpaints : paints s (s.setPix (paintPalette s).pix) (fun i => segPal i true 255 s) := by
    rw [← hgrad]
    exact paints_paint _ s
  refine ⟨frameTime_eq, rfl, ?_⟩
  unfold sparkleUpdate
  split <;> exact hpaints

theorem fxSparkle_eq (t : Nat) :
    let v := sparkleUpdate (t / (10 + (255 - s.speed.toNat) * 2)) s
    fxSparkle t s =
      frame (segSet (v.aux0.toNat : Int) s.color0 (v.setPix (paintPalette s).pix)) := by
  intro v
  have hcyc : sparkleCycle s.speed.toNat = 10 + (255 - s.speed.toNat) * 2 := rfl
  have hgrad : paintPalette s = s.setPix (paintPalette s).pix := paint_samePixApart _ s
  have hupdate := sparkleUpdate_eq (t / (10 + (255 - s.speed.toNat) * 2)) s (paintPalette s).pix
  rw [← hgrad] at hupdate
  simp only [fxSparkle, hcyc, hupdate]
  rfl

end Sparkle

theorem shows_fxSparkle (t : Nat) (s : State) :
    let v := sparkleUpdate (t / (10 + (255 - s.speed.toNat) * 2)) s
    (fxSparkle t s).Shows 24 v
      (fun i => if i = v.aux0.toNat then s.color0 else segPal i true 255 s) := by
  intro v
  rw [fxSparkle_eq]
  exact shows_lit (shows_paintPalette_sparkleUpdate _ s) 1 (fun _ => (v.aux0.toNat : Int))
    (fun _ => s.color0) (fun i => i = v.aux0.toNat)
    fun i _ => by simp only [Nat.lt_one_iff, exists_eq_left, Nat.cast_inj, eq_comm]

/-- Settles O58: one pixel is lit over the gradient of the updated state. -/
theorem sparkleOverlaysOnePixel : Obligations.SparkleOverlaysOnePixel := by
  unfold Obligations.SparkleOverlaysOnePixel
  intro s hlen it
  obtain ⟨u, hexec, hframe, hpaints⟩ :=
    exec_of_row_shows (i := .fxSparkle) rfl hlen (shows_fxSparkle (now s).toNat s)
  rw [paints_sparkleUpdate_iff] at hpaints
  exact ⟨u, sparkleUpdate it s, hexec, hframe, fun hit => if_neg (not_not.2 hit),
    fun hit => if_pos hit, hpaints⟩

/-! ### Dynamic (R184) -/

/-- `u` is `s` but for DATA, which is in rising order and holds the bytes `f`. -/
structure HoldsBytes (s u : State) (f : Nat → Byte) : Prop where
  dataApart : u = s.setData u.data
  rising : Memory.rising u.data = true
  bytes : ∀ j, dataRead j u = f j

/-- The bytes below `n` are those of `g`, the others those of `f`. -/
def bytesBelow (n : Nat) (g f : Nat → Byte) (j : Nat) : Byte := if j < n then g j else f j

section Bytes

variable {s u : State} {f g : Nat → Byte} {n : Nat}

theorem HoldsBytes.refl (h : Memory.rising s.data = true) : HoldsBytes s s (dataRead · s) :=
  ⟨rfl, h, fun _ => rfl⟩

/-- A draw touches neither DATA nor what else the two states share. -/
theorem HoldsBytes.draw (h : HoldsBytes s u f) (n : Nat) :
    HoldsBytes (drawn s n) (drawn u n) f := by
  refine ⟨?_, h.rising, h.bytes⟩
  rw [h.dataApart]
  rfl

theorem HoldsBytes.rawDraw (h : HoldsBytes s u f) : rawDraw u = rawDraw s := by
  rw [h.dataApart]
  rfl

theorem HoldsBytes.intensity (h : HoldsBytes s u f) : u.intensity = s.intensity := by
  rw [h.dataApart]
  rfl

theorem bytesBelow_of_lt {j : Nat} (h : j < n) : bytesBelow n g f j = g j := if_pos h

theorem bytesBelow_of_le {j : Nat} (h : n ≤ j) : bytesBelow n g f j = f j :=
  if_neg (Nat.not_lt.2 h)

theorem bytesBelow_succ (j : Nat) :
    bytesBelow (n + 1) g f j = if j = n then g n else bytesBelow n g f j := by
  rcases Nat.lt_trichotomy j n with hlt | rfl | hgt
  · rw [if_neg (by omega), bytesBelow_of_lt hlt, bytesBelow_of_lt (by omega)]
  · rw [if_pos rfl, bytesBelow_of_lt (by omega)]
  · rw [if_neg (by omega), bytesBelow_of_le (by omega), bytesBelow_of_le (by omega)]

/-- Writing the byte after those already written. -/
theorem HoldsBytes.write_succ (h : HoldsBytes s u (bytesBelow n g f)) :
    HoldsBytes s (dataWrite n (g n) u) (bytesBelow (n + 1) g f) := by
  refine ⟨?_, dataWrite_rising n (g n) u h.rising, fun j => ?_⟩
  · rw [h.dataApart]
    rfl
  · rw [dataRead_dataWrite n j (g n) u h.rising, h.bytes, bytesBelow_succ]

/-- Leaving that byte as it is, where it is the one to be written. -/
theorem HoldsBytes.keep_succ (h : HoldsBytes s u (bytesBelow n g f)) (hkeep : g n = f n) :
    HoldsBytes s u (bytesBelow (n + 1) g f) := by
  refine ⟨h.dataApart, h.rising, fun j => ?_⟩
  rw [h.bytes, bytesBelow_succ]
  split
  case isTrue hj => rw [hj, bytesBelow_of_le (Nat.le_refl n), hkeep]
  case isFalse => rfl

end Bytes

section Allocate

variable {s : State} (hrising : Memory.rising s.data = true)
include hrising

theorem holdsBytes_allocate (n : Nat) :
    HoldsBytes (s.setDataLen (BitVec.ofNat 16 n)) (allocate n s)
      (bytesBelow n (fun _ => 0) (dataRead · s)) := by
  have hloop (m : Nat) : HoldsBytes (s.setDataLen (BitVec.ofNat 16 n))
      (forUpTo m (fun i u => dataWrite i 0 u) (s.setDataLen (BitVec.ofNat 16 n)))
      (bytesBelow m (fun _ => 0) (dataRead · s)) := by
    induction m with
    | zero => exact .refl (s := s.setDataLen (BitVec.ofNat 16 n)) hrising
    | succ m ih => exact ih.write_succ
  exact hloop n

/-- The hue of pixel `i` before a redraw: zero where the buffer is allocated anew. -/
def oldHue (s : State) (i : Nat) : Byte := if s.dataLen.toNat = s.len then dataRead i s else 0

theorem holdsBytes_allocated :
    HoldsBytes (s.setDataLen (BitVec.ofNat 16 s.len)) (allocated s)
      (bytesBelow s.len (oldHue s) (dataRead · s)) := by
  by_cases hsame : s.dataLen.toNat = s.len
  · have hlen : s.setDataLen (BitVec.ofNat 16 s.len) = s := by
      rw [← hsame, BitVec.ofNat_toNat, BitVec.setWidth_eq, State.setDataLen_self]
    have hbytes : bytesBelow s.len (oldHue s) (dataRead · s) = (dataRead · s) := by
      funext j
      simp only [bytesBelow, oldHue, if_pos hsame, ite_self]
    rw [hlen, hbytes, allocated, if_neg (not_not.2 hsame)]
    exact .refl hrising
  · have hold : oldHue s = fun _ => 0 := funext fun _ => if_neg hsame
    rw [hold, allocated, if_pos hsame]
    exact holdsBytes_allocate hrising s.len

end Allocate

/-- How many draws precede those of pixel `i`: each pixel takes one, and a second one if the first
succeeds. -/
def drawsBefore (raw : Nat → Nat) (intensity : Nat) : Nat → Nat
  | 0 => 0
  | i + 1 =>
    drawsBefore raw intensity i +
      if raw (drawsBefore raw intensity i) % 255 < intensity then 2 else 1

/-- The hue of pixel `i` after a redraw of the hues `f`. -/
def redrawnHue (raw : Nat → Nat) (intensity : Nat) (f : Nat → Byte) (i : Nat) : Byte :=
  if raw (drawsBefore raw intensity i) % 255 < intensity then
    BitVec.ofNat 8 (raw (drawsBefore raw intensity i + 1) % 256)
  else f i

/-- One pixel's draws. -/
theorem dynamicPixel_eq (i : Nat) (u : State) :
    dynamicPixel i u =
      if rawDraw u 0 % 255 < u.intensity.toNat then
        dataWrite i (BitVec.ofNat 8 (rawDraw u 1 % 256)) (drawn u 2)
      else drawn u 1 := by
  have hraw : rawDraw (drawn u 1) 0 = rawDraw u 1 := rawDraw_drawn u 1 0
  have hdrawn : drawn (drawn u 1) 1 = drawn u 2 := drawn_drawn u 1 1
  simp only [dynamicPixel, afterDraw_eq_drawn, rand_eq_rawDraw, dynamicChance_eq,
    wheelPositions_eq, hraw, hdrawn]

/-- The redraw, pixel by pixel: by induction on the pixels already done. -/
theorem holdsBytes_redraw {s u : State} {f : Nat → Byte} (h : HoldsBytes s u f) (n : Nat) :
    HoldsBytes (drawn s (drawsBefore (rawDraw s) s.intensity.toNat n)) (forUpTo n dynamicPixel u)
      (bytesBelow n (redrawnHue (rawDraw s) s.intensity.toNat f) f) := by
  induction n with
  | zero => exact h
  | succ n ih =>
    have hraw (j : Nat) : rawDraw (forUpTo n dynamicPixel u) j =
        rawDraw s (drawsBefore (rawDraw s) s.intensity.toNat n + j) := by
      rw [ih.rawDraw, rawDraw_drawn]
    have hintensity : (forUpTo n dynamicPixel u).intensity = s.intensity := ih.intensity
    simp only [forUpTo_succ, dynamicPixel_eq, hraw, hintensity, Nat.add_zero, drawsBefore]
    split
    case isTrue hhit =>
      have hhue : BitVec.ofNat 8 (rawDraw s (drawsBefore (rawDraw s) s.intensity.toNat n + 1) % 256)
          = redrawnHue (rawDraw s) s.intensity.toNat f n := (if_pos hhit).symm
      rw [hhue, ← drawn_drawn]
      exact (ih.draw 2).write_succ
    case isFalse hmiss =>
      rw [← drawn_drawn]
      exact (ih.draw 1).keep_succ (if_neg hmiss)

/-- Whether Dynamic redraws its hues (R184). -/
abbrev redrawDue (it : Nat) (s : State) : Prop := it ≠ s.step.toNat ∧ s.speed ≠ 0

/-- The draws taken before pixel `i`: none where no redraw is due. -/
def dynamicDraws (it : Nat) (s : State) (i : Nat) : Nat :=
  if redrawDue it s then drawsBefore (rawDraw s) s.intensity.toNat i else 0

/-- The hue of pixel `i` in a frame of Dynamic. -/
def dynamicHue (it : Nat) (s : State) (i : Nat) : Byte :=
  if redrawDue it s then redrawnHue (rawDraw s) s.intensity.toNat (oldHue s) i else oldHue s i

/-- The state that Dynamic's frame paints, but for DATA. -/
def dynamicRegisters (it : Nat) (s : State) : State :=
  { drawn s (dynamicDraws it s s.len) with
    step := if redrawDue it s then BitVec.ofNat 32 it else s.step
    dataLen := BitVec.ofNat 16 s.len }

theorem redrawn_eq (it : Nat) (s u : State) :
    redrawn it s u =
      if redrawDue it s then (forUpTo s.len dynamicPixel u).setStep (natWord it) else u := by
  simp only [redrawn, boundary_iff]

/-- What is drawn over hues that were themselves written below `n`. -/
theorem bytesBelow_redrawnHue (raw : Nat → Nat) (intensity n : Nat) (g f : Nat → Byte) :
    bytesBelow n (redrawnHue raw intensity (bytesBelow n g f)) (bytesBelow n g f) =
      bytesBelow n (redrawnHue raw intensity g) f := by
  funext j
  rcases Nat.lt_or_ge j n with h | h
  · simp only [bytesBelow_of_lt h, redrawnHue]
  · simp only [bytesBelow_of_le h]

theorem holdsBytes_dynamicUpdate {s : State} (hrising : Memory.rising s.data = true) (t : Nat) :
    let it := t / (50 + (255 - s.speed.toNat) * 15)
    HoldsBytes (dynamicRegisters it s) (dynamicUpdate t s)
      (bytesBelow s.len (dynamicHue it s) (dataRead · s)) := by
  intro it
  have halloc := holdsBytes_allocated hrising
  have hupdate : dynamicUpdate t s = redrawn it s (allocated s) := rfl
  by_cases hdue : redrawDue it s
  · have hredraw := holdsBytes_redraw halloc s.len
    rw [bytesBelow_redrawnHue] at hredraw
    have hhue : dynamicHue it s = redrawnHue (rawDraw s) s.intensity.toNat (oldHue s) :=
      funext fun _ => if_pos hdue
    rw [hupdate, redrawn_eq, if_pos hdue, hhue, dynamicRegisters, dynamicDraws,
      if_pos hdue, if_pos hdue]
    refine ⟨?_, hredraw.rising, hredraw.bytes⟩
    rw [hredraw.dataApart]
    rfl
  · have hhue : dynamicHue it s = oldHue s := funext fun _ => if_neg hdue
    rw [hupdate, redrawn_eq, if_neg hdue, hhue, dynamicRegisters, dynamicDraws,
      if_neg hdue, if_neg hdue]
    exact halloc

/-- The hue and the draws of one pixel, by the outcome of its draws. -/
theorem dynamicHue_spec (it : Nat) (s : State) (i : Nat) :
    if redrawDue it s then
      if rawDraw s (dynamicDraws it s i) % 255 < s.intensity.toNat then
        (dynamicHue it s i).toNat = rawDraw s (dynamicDraws it s i + 1) % 256 ∧
          dynamicDraws it s (i + 1) = dynamicDraws it s i + 2
      else (dynamicHue it s i).toNat = (oldHue s i).toNat ∧
        dynamicDraws it s (i + 1) = dynamicDraws it s i + 1
    else (dynamicHue it s i).toNat = (oldHue s i).toNat ∧
      dynamicDraws it s (i + 1) = dynamicDraws it s i := by
  by_cases hdue : redrawDue it s
  · simp only [dynamicHue, dynamicDraws, if_pos hdue, redrawnHue, drawsBefore]
    split
    · rw [BitVec.toNat_ofNat]
      exact ⟨Nat.mod_mod _ _, rfl⟩
    · exact ⟨rfl, rfl⟩
  · simp only [dynamicHue, dynamicDraws, if_neg hdue, and_self]

theorem toNat_oldHue (s : State) (i : Nat) :
    (oldHue s i).toNat = if s.dataLen.toNat = s.len then (dataRead i s).toNat else 0 :=
  apply_ite BitVec.toNat _ _ _

/-- A frame leaves DATA alone once its hues are there. -/
theorem data_of_frameOf {s t : State} {delay : Nat} (h : frameOf s t delay) : t.data = s.data := by
  unfold frameOf at h
  rw [h]
  rfl

theorem shows_fxDynamic {s : State} (hfits : s.len ≤ s.cfg.dataCap) (t : Nat) :
    (fxDynamic t s).Shows 24 (dynamicUpdate t s)
      (fun i => hueWheel (dataRead i (dynamicUpdate t s)).toNat) := by
  rw [fxDynamic_of_len_le_dataCap hfits]
  exact shows_frame_paint _ _

/-- `paints` reads of its first state the segment, and PIX outside it. -/
theorem paints_congr {s v : State} (hstart : v.segStart = s.segStart) (hend : v.segEnd = s.segEnd)
    (hcfg : v.cfg = s.cfg) (hpix : v.pix = s.pix) (hboots : v.boots = s.boots) (u : State)
    (col : Nat → Color) : paints v u col ↔ paints s u col := by
  unfold paints inSegment pixRead
  rw [hstart, hend, hcfg, hpix, hboots]

theorem paints_iff_of_holdsBytes {it : Nat} {s v : State} {f : Nat → Byte}
    (h : HoldsBytes (dynamicRegisters it s) v f) (u : State) (col : Nat → Color) :
    paints v u col ↔ paints s u col := by
  rw [h.dataApart]
  refine paints_congr (s := s) ?_ ?_ ?_ ?_ ?_ u col <;> simp [dynamicRegisters, drawn]

/-- Settles O56: the redraw goes pixel by pixel over the buffer, and the frame paints the buffer. -/
theorem dynamicRedrawsHuesAtABoundary : Obligations.DynamicRedrawsHuesAtABoundary := by
  unfold Obligations.DynamicRedrawsHuesAtABoundary
  refine fun s => ⟨fun hlong => ?fallback, fun hinv hlen hfits => ?redraw⟩
  case fallback => exact exec_eq_fxStatic rfl (frameFor_fallback (n := 13) (by simp [hlong]))
  case redraw =>
    intro it old
    obtain ⟨-, -, hdata, -, -⟩ := (inv_iff s).1 hinv
    have hholds := holdsBytes_dynamicUpdate ((Memory.wf_iff _ _ _).1 hdata).1 (now s).toNat
    obtain ⟨u, hexec, hframe, hpaints⟩ :=
      exec_of_row_shows (i := .fxDynamic) rfl hlen (shows_fxDynamic hfits (now s).toNat)
    have hsame : u.data = (dynamicUpdate (now s).toNat s).data := data_of_frameOf hframe
    have hread (j : Nat) : dataRead j (dynamicUpdate (now s).toNat s) = dataRead j u := by
      rw [dataRead, ← hsame, dataRead]
    have hbytes (j : Nat) : dataRead j u =
        bytesBelow s.len (dynamicHue it s) (dataRead · s) j :=
      (hread j).symm.trans (hholds.bytes j)
    have hbelow {i : Nat} (hi : i < s.len) : dataRead i u = dynamicHue it s i :=
      (hbytes i).trans (bytesBelow_of_lt hi)
    rw [hholds.dataApart, ← hsame] at hframe
    refine ⟨u, dynamicDraws it s, hexec, hframe, ?start, fun i hi => ?pixel,
      fun i hi => (hbytes i).trans (bytesBelow_of_le hi), ?paints⟩
    case start => exact ite_self 0
    case pixel =>
      have hspec := dynamicHue_spec it s i
      rw [← hbelow hi, toNat_oldHue] at hspec
      exact hspec
    case paints =>
      rw [paints_iff_of_holdsBytes hholds] at hpaints
      simp only [hread] at hpaints
      exact hpaints

end Sys2Proof.Machine
end

section
/-! What a frame shows does not depend on what PIX held nor on CALL, but in Twinkle
(spec/70_reset_and_hazards.md section 2). -/

namespace Sys2Proof.Machine

open Sys2Proof.Claims

/-- `s` with another content of PIX and another frame count. -/
def State.withPixCall (s : State) (m : List (Nat × Color)) (c : Word) : State :=
  (s.setPix m).setCall c

section WithPixCall

variable (s : State) (m : List (Nat × Color)) (c : Word)

@[simp] theorem State.withPixCall_len : (s.withPixCall m c).len = s.len := rfl
@[simp] theorem State.withPixCall_speed : (s.withPixCall m c).speed = s.speed := rfl
@[simp] theorem State.withPixCall_intensity : (s.withPixCall m c).intensity = s.intensity := rfl
@[simp] theorem State.withPixCall_color0 : (s.withPixCall m c).color0 = s.color0 := rfl
@[simp] theorem State.withPixCall_aux0 : (s.withPixCall m c).aux0 = s.aux0 := rfl
@[simp] theorem State.withPixCall_aux1 : (s.withPixCall m c).aux1 = s.aux1 := rfl

@[simp] theorem segPal_withPixCall (index : Int) (useIndex : Bool) (bri : Nat) :
    segPal index useIndex bri (s.withPixCall m c) = segPal index useIndex bri s := rfl

@[simp] theorem dataRead_withPixCall (k : Nat) :
    dataRead k (s.withPixCall m c) = dataRead k s := rfl

end WithPixCall

/-- The frames `f` and `g` show the same colours in the segment of `s`. -/
def SameColours (s : State) (f g : Frame) : Prop :=
  ∀ k, inSegment s k → pixRead k g.state = pixRead k f.state

section SameColours

variable {s u v : State} {f g : Frame} {df dg : Nat} {col : Nat → Color}

/-- `u` has the segment of `s`, on the same platform. -/
abbrev SameSegment (s u : State) : Prop :=
  u.segStart = s.segStart ∧ u.segEnd = s.segEnd ∧ u.cfg = s.cfg

theorem SameSegment.withPixCall (h : SameSegment s u) (m : List (Nat × Color)) (c : Word) :
    SameSegment s (u.withPixCall m c) := h

theorem Frame.Shows.colour (hf : f.Shows df u col) (hu : SameSegment s u) {k : Nat}
    (hk : inSegment s k) : pixRead k f.state = col (k - s.segStart.toNat) := by
  obtain ⟨hstart, hend, hcfg⟩ := hu
  have hku : inSegment u k := by
    unfold inSegment
    rw [hstart, hend, hcfg]
    exact hk
  rw [hf.colours k, if_pos hku, hstart]

/-- Two frames show the same where they show the same colours. -/
theorem SameColours.of_shows (hf : f.Shows df u col) (hg : g.Shows dg v col)
    (hu : SameSegment s u := by exact ⟨rfl, rfl, rfl⟩)
    (hv : SameSegment s v := by exact ⟨rfl, rfl, rfl⟩) : SameColours s f g := fun _ hk =>
  (hg.colour hv hk).trans (hf.colour hu hk).symm

end SameColours

variable (s : State) (m : List (Nat × Color)) (c : Word) (t : Nat)

theorem sameColours_fxStatic :
    SameColours s (fxStatic t s) (fxStatic t (s.withPixCall m c)) :=
  .of_shows (shows_fxStatic t s) (shows_fxStatic t (s.withPixCall m c))

theorem sameColours_scanCommon (dual : Bool) :
    SameColours s (scanCommon dual t s) (scanCommon dual t (s.withPixCall m c)) := by
  rcases Nat.lt_or_ge s.len 2 with hshort | hlen
  · have hle : s.len ≤ 1 := Nat.le_of_lt_succ hshort
    rw [scanCommon_of_len_le_one hle, scanCommon_of_len_le_one (s := s.withPixCall m c) hle]
    exact sameColours_fxStatic s m c t
  · cases dual
    · exact .of_shows (shows_fxScan hlen t)
        (shows_fxScan (s := s.withPixCall m c) hlen t)
    · exact .of_shows (shows_fxDualScan hlen t)
        (shows_fxDualScan (s := s.withPixCall m c) hlen t)

theorem sameColours_fxWipe : SameColours s (fxWipe t s) (fxWipe t (s.withPixCall m c)) := by
  rcases Nat.lt_or_ge s.len 2 with hshort | hlen
  · have hle : s.len ≤ 1 := Nat.le_of_lt_succ hshort
    rw [fxWipe_of_len_le_one hle, fxWipe_of_len_le_one (s := s.withPixCall m c) hle]
    exact sameColours_fxStatic s m c t
  · exact .of_shows (shows_fxWipe hlen t) (shows_fxWipe (s := s.withPixCall m c) hlen t)

/-- An update made under a condition commutes with what each of its branches commutes with. -/
theorem ite_withPixCall (p : Prop) [Decidable p] (u v : State) :
    (if p then u.withPixCall m c else v.withPixCall m c) =
      (if p then u else v).withPixCall m c :=
  (apply_ite (State.withPixCall · m c) p u v).symm

theorem sameSegment_randomColorUpdate (it : Nat) : SameSegment s (randomColorUpdate it s) := by
  unfold randomColorUpdate
  split <;> exact ⟨rfl, rfl, rfl⟩

theorem randomColorUpdate_withPixCall (it : Nat) :
    randomColorUpdate it (s.withPixCall m c) = (randomColorUpdate it s).withPixCall m c := by
  unfold randomColorUpdate
  rw [← ite_withPixCall]
  rfl

theorem sameColours_fxRandomColor :
    SameColours s (fxRandomColor t s) (fxRandomColor t (s.withPixCall m c)) := by
  have hf := shows_fxRandomColor t s
  have hg := shows_fxRandomColor t (s.withPixCall m c)
  have hsegment := sameSegment_randomColorUpdate s
    (t / (200 + (255 - s.speed.toNat) * 50))
  simp only [randomColorUpdate_withPixCall, State.withPixCall_speed, State.withPixCall_intensity,
    State.withPixCall_aux0, State.withPixCall_aux1] at hg
  exact .of_shows hf hg hsegment (hsegment.withPixCall m c)

theorem sameSegment_sparkleUpdate (it : Nat) : SameSegment s (sparkleUpdate it s) := by
  unfold sparkleUpdate
  split <;> exact ⟨rfl, rfl, rfl⟩

theorem sparkleUpdate_withPixCall (it : Nat) :
    sparkleUpdate it (s.withPixCall m c) = (sparkleUpdate it s).withPixCall m c := by
  unfold sparkleUpdate
  rw [← ite_withPixCall]
  rfl

theorem sameColours_fxSparkle :
    SameColours s (fxSparkle t s) (fxSparkle t (s.withPixCall m c)) := by
  have hf := shows_fxSparkle t s
  have hg := shows_fxSparkle t (s.withPixCall m c)
  have hsegment := sameSegment_sparkleUpdate s (t / (10 + (255 - s.speed.toNat) * 2))
  simp only [sparkleUpdate_withPixCall, State.withPixCall_speed, State.withPixCall_color0,
    State.withPixCall_aux0, segPal_withPixCall] at hg
  exact .of_shows hf hg hsegment (hsegment.withPixCall m c)

/-! ### Dynamic's buffer -/

/-- A loop commutes with what its every round commutes with. -/
theorem forUpTo_comm {α : Type} (g : α → α) (n : Nat) (f : Nat → α → α) (x : α)
    (h : ∀ i y, f i (g y) = g (f i y)) : forUpTo n f (g x) = g (forUpTo n f x) := by
  induction n with
  | zero => rfl
  | succ n ih => rw [forUpTo_succ, forUpTo_succ, ih, h]

theorem dynamicPixel_withPixCall (i : Nat) :
    dynamicPixel i (s.withPixCall m c) = (dynamicPixel i s).withPixCall m c := by
  simp only [dynamicPixel_eq]
  rw [← ite_withPixCall]
  rfl

theorem allocate_withPixCall (n : Nat) :
    allocate n (s.withPixCall m c) = (allocate n s).withPixCall m c :=
  forUpTo_comm (State.withPixCall · m c) n (fun i u => dataWrite i 0 u)
    (s.setDataLen (BitVec.ofNat 16 n)) fun _ _ => rfl

theorem allocated_withPixCall :
    allocated (s.withPixCall m c) = (allocated s).withPixCall m c := by
  unfold allocated
  rw [← ite_withPixCall, ← allocate_withPixCall]
  rfl

theorem dynamicUpdate_withPixCall :
    dynamicUpdate t (s.withPixCall m c) = (dynamicUpdate t s).withPixCall m c := by
  have hloop (u : State) : forUpTo s.len dynamicPixel (u.withPixCall m c) =
      (forUpTo s.len dynamicPixel u).withPixCall m c :=
    forUpTo_comm (State.withPixCall · m c) s.len dynamicPixel u
      fun i u => dynamicPixel_withPixCall u m c i
  unfold dynamicUpdate redrawn
  rw [← ite_withPixCall, allocated_withPixCall]
  rw [State.withPixCall_len, hloop]
  rfl

theorem sameColours_fxDynamic :
    SameColours s (fxDynamic t s) (fxDynamic t (s.withPixCall m c)) := by
  rcases Nat.lt_or_ge s.cfg.dataCap s.len with hlong | hfits
  · rw [fxDynamic_of_dataCap_lt hlong, fxDynamic_of_dataCap_lt (s := s.withPixCall m c) hlong]
    exact sameColours_fxStatic s m c t
  · have hf := shows_fxDynamic hfits t
    have hg := shows_fxDynamic (s := s.withPixCall m c) hfits t
    simp only [dynamicUpdate_withPixCall, dataRead_withPixCall] at hg
    have hchanges : Changes True s (dynamicUpdate t s) := changes_dynamicUpdate t s trivial hfits
    have hsegment : SameSegment s (dynamicUpdate t s) := by
      rw [hchanges.eq_withScratchOf]
      exact ⟨rfl, rfl, rfl⟩
    exact .of_shows hf hg hsegment (hsegment.withPixCall m c)

/-! ### The registry -/

theorem sameColours_runEffect {n : Nat} (hn : n ≠ 14) :
    SameColours s (runEffect n t s) (runEffect n t (s.withPixCall m c)) := by
  unfold runEffect
  split
  case h_2 =>
    exact .of_shows (shows_fxBlink t s) (shows_fxBlink t (s.withPixCall m c))
  case h_3 =>
    exact .of_shows (shows_fxStrobe t s) (shows_fxStrobe t (s.withPixCall m c))
  case h_4 | h_5 =>
    exact .of_shows (shows_crossfade _ s) (shows_crossfade _ (s.withPixCall m c))
  case h_6 | h_7 => exact sameColours_scanCommon s m c t _
  case h_8 =>
    exact .of_shows (shows_fxRainbow t s) (shows_fxRainbow t (s.withPixCall m c))
  case h_9 =>
    exact .of_shows (shows_fxRainbowCycle t s)
      (shows_fxRainbowCycle t (s.withPixCall m c))
  case h_10 =>
    exact .of_shows (shows_fxTheater t s) (shows_fxTheater t (s.withPixCall m c))
  case h_11 =>
    exact .of_shows (shows_fxRunning t s) (shows_fxRunning t (s.withPixCall m c))
  case h_12 => exact sameColours_fxWipe s m c t
  case h_13 => exact sameColours_fxRandomColor s m c t
  case h_14 => exact sameColours_fxDynamic s m c t
  case h_15 => exact absurd rfl hn
  case h_16 => exact sameColours_fxSparkle s m c t
  all_goals exact sameColours_fxStatic s m c t

/-- Settles O26: each row paints colours that are read neither from PIX nor from CALL. -/
theorem framesIgnoreOldPixelsAndCall : Obligations.FramesIgnoreOldPixelsAndCall := by
  unfold Obligations.FramesIgnoreOldPixelsAndCall
  intro i n hid hn s t u m c ht hu k hk
  rw [exec_of_effectNumber hid] at ht hu
  cases ht
  cases hu
  refine sameColours_runEffect s m c (now s).toNat (n := if s.len = 0 then 0 else n) ?_ k hk
  split
  · decide
  · exact hn

end Sys2Proof.Machine
end
